-- ==== Sys2Proof/Word.lean ====
section
/-! DEFINITION. The word types of the machine: bytes, CPU addresses and PPU addresses
(00_scope.md R6, R8). -/

namespace Sys2Proof

/-- A byte: every register but `pc`, every memory cell (R6). -/
abbrev Byte := BitVec 8

/-- A CPU address (R6: 16 bits). -/
abbrev Addr := BitVec 16

/-- A PPU address (R6: 14 bits). -/
abbrev PpuAddr := BitVec 14

end Sys2Proof
end

