-- ==== Sys2Proof/Syntax.lean ====
section
/-! DEFINITION. The instructions: one constructor for each row of spec/opcode_table.json (30_encoding.md R190-R193), with its operand
bytes. A row whose mnemonic and mode another row shares carries its opcode in its name. -/

namespace Sys2Proof

/-- The addressing formats with their operand bytes (30_encoding.md R171, R174). `brk`: the padding byte is no operand. -/
inductive Operand where
  | imp
  | acc
  | brk
  | imm (v : Byte)
  | zp (z : Byte)
  | zpx (z : Byte)
  | zpy (z : Byte)
  | izx (z : Byte)
  | izy (z : Byte)
  | rel (r : Byte)
  | abs (l h : Byte)
  | absx (l h : Byte)
  | absy (l h : Byte)
  | ind (l h : Byte)
deriving DecidableEq, Repr

/-- The formats without operand bytes. -/
inductive Mode where
  | imp
  | acc
  | brk
  | imm
  | zp
  | zpx
  | zpy
  | izx
  | izy
  | rel
  | abs
  | absx
  | absy
  | ind
deriving DecidableEq, Repr

/-- The format of an operand. -/
def Operand.mode : Operand → Mode
  | .imp => .imp
  | .acc => .acc
  | .brk => .brk
  | .imm _ => .imm
  | .zp _ => .zp
  | .zpx _ => .zpx
  | .zpy _ => .zpy
  | .izx _ => .izx
  | .izy _ => .izy
  | .rel _ => .rel
  | .abs _ _ => .abs
  | .absx _ _ => .absx
  | .absy _ _ => .absy
  | .ind _ _ => .ind

/-- The operand bytes, in the order they follow the opcode (R171). -/
def Operand.bytes : Operand → List Byte
  | .imp => []
  | .acc => []
  | .brk => []
  | .imm v => [v]
  | .zp z => [z]
  | .zpx z => [z]
  | .zpy z => [z]
  | .izx z => [z]
  | .izy z => [z]
  | .rel r => [r]
  | .abs l h => [l, h]
  | .absx l h => [l, h]
  | .absy l h => [l, h]
  | .ind l h => [l, h]

/-- The 76 mnemonics of the opcode table: the 56 documented ones (R191), JAM (R192) and the undocumented ones (R193). -/
inductive Mnemonic where
  | BRK | ORA | NOP | ASL | PHP | BPL | CLC | JSR
  | AND | BIT | ROL | PLP | BMI | SEC | RTI | EOR
  | LSR | PHA | JMP | BVC | CLI | RTS | ADC | ROR
  | PLA | BVS | SEI | STA | STY | STX | DEY | TXA
  | BCC | TYA | TXS | LDY | LDA | LDX | TAY | TAX
  | BCS | CLV | TSX | CPY | CMP | DEC | INY | DEX
  | BNE | CLD | CPX | SBC | INC | INX | BEQ | SED
  | JAM | SLO | ANC | RLA | SRE | ALR | RRA | ARR
  | SAX | ANE | SHA | TAS | SHY | SHX | LAX | LXA
  | LAS | DCP | AXS | ISB
deriving DecidableEq, Repr

/-- The instructions: first those with operand bytes, then those without, each in the order of the opcode table. -/
inductive Instr where
  /-- $01 `ORA ($nn,X)` (R238). -/
  | oraIzx (z : Byte)
  /-- $03 `SLO ($nn,X)` (R314). -/
  | sloIzx (z : Byte)
  /-- $04 `NOP $nn` (R313). -/
  | nopZp04 (z : Byte)
  /-- $05 `ORA $nn` (R238). -/
  | oraZp (z : Byte)
  /-- $06 `ASL $nn` (R260). -/
  | aslZp (z : Byte)
  /-- $07 `SLO $nn` (R314). -/
  | sloZp (z : Byte)
  /-- $09 `ORA #$nn` (R238). -/
  | oraImm (v : Byte)
  /-- $0B `ANC #$nn` (R322). -/
  | ancImm0B (v : Byte)
  /-- $0C `NOP $nnnn` (R313). -/
  | nopAbs (l h : Byte)
  /-- $0D `ORA $nnnn` (R238). -/
  | oraAbs (l h : Byte)
  /-- $0E `ASL $nnnn` (R260). -/
  | aslAbs (l h : Byte)
  /-- $0F `SLO $nnnn` (R314). -/
  | sloAbs (l h : Byte)
  /-- $10 `BPL label` (R271). -/
  | bpl (r : Byte)
  /-- $11 `ORA ($nn),Y` (R238). -/
  | oraIzy (z : Byte)
  /-- $13 `SLO ($nn),Y` (R314). -/
  | sloIzy (z : Byte)
  /-- $14 `NOP $nn,X` (R313). -/
  | nopZpx14 (z : Byte)
  /-- $15 `ORA $nn,X` (R238). -/
  | oraZpx (z : Byte)
  /-- $16 `ASL $nn,X` (R260). -/
  | aslZpx (z : Byte)
  /-- $17 `SLO $nn,X` (R314). -/
  | sloZpx (z : Byte)
  /-- $19 `ORA $nnnn,Y` (R238). -/
  | oraAbsy (l h : Byte)
  /-- $1B `SLO $nnnn,Y` (R314). -/
  | sloAbsy (l h : Byte)
  /-- $1C `NOP $nnnn,X` (R313). -/
  | nopAbsx1C (l h : Byte)
  /-- $1D `ORA $nnnn,X` (R238). -/
  | oraAbsx (l h : Byte)
  /-- $1E `ASL $nnnn,X` (R260). -/
  | aslAbsx (l h : Byte)
  /-- $1F `SLO $nnnn,X` (R314). -/
  | sloAbsx (l h : Byte)
  /-- $20 `JSR $nnnn` (R280). -/
  | jsrAbs (l h : Byte)
  /-- $21 `AND ($nn,X)` (R237). -/
  | andIzx (z : Byte)
  /-- $23 `RLA ($nn,X)` (R315). -/
  | rlaIzx (z : Byte)
  /-- $24 `BIT $nn` (R243). -/
  | bitZp (z : Byte)
  /-- $25 `AND $nn` (R237). -/
  | andZp (z : Byte)
  /-- $26 `ROL $nn` (R262). -/
  | rolZp (z : Byte)
  /-- $27 `RLA $nn` (R315). -/
  | rlaZp (z : Byte)
  /-- $29 `AND #$nn` (R237). -/
  | andImm (v : Byte)
  /-- $2B `ANC #$nn` (R322). -/
  | ancImm2B (v : Byte)
  /-- $2C `BIT $nnnn` (R243). -/
  | bitAbs (l h : Byte)
  /-- $2D `AND $nnnn` (R237). -/
  | andAbs (l h : Byte)
  /-- $2E `ROL $nnnn` (R262). -/
  | rolAbs (l h : Byte)
  /-- $2F `RLA $nnnn` (R315). -/
  | rlaAbs (l h : Byte)
  /-- $30 `BMI label` (R272). -/
  | bmi (r : Byte)
  /-- $31 `AND ($nn),Y` (R237). -/
  | andIzy (z : Byte)
  /-- $33 `RLA ($nn),Y` (R315). -/
  | rlaIzy (z : Byte)
  /-- $34 `NOP $nn,X` (R313). -/
  | nopZpx34 (z : Byte)
  /-- $35 `AND $nn,X` (R237). -/
  | andZpx (z : Byte)
  /-- $36 `ROL $nn,X` (R262). -/
  | rolZpx (z : Byte)
  /-- $37 `RLA $nn,X` (R315). -/
  | rlaZpx (z : Byte)
  /-- $39 `AND $nnnn,Y` (R237). -/
  | andAbsy (l h : Byte)
  /-- $3B `RLA $nnnn,Y` (R315). -/
  | rlaAbsy (l h : Byte)
  /-- $3C `NOP $nnnn,X` (R313). -/
  | nopAbsx3C (l h : Byte)
  /-- $3D `AND $nnnn,X` (R237). -/
  | andAbsx (l h : Byte)
  /-- $3E `ROL $nnnn,X` (R262). -/
  | rolAbsx (l h : Byte)
  /-- $3F `RLA $nnnn,X` (R315). -/
  | rlaAbsx (l h : Byte)
  /-- $41 `EOR ($nn,X)` (R239). -/
  | eorIzx (z : Byte)
  /-- $43 `SRE ($nn,X)` (R316). -/
  | sreIzx (z : Byte)
  /-- $44 `NOP $nn` (R313). -/
  | nopZp44 (z : Byte)
  /-- $45 `EOR $nn` (R239). -/
  | eorZp (z : Byte)
  /-- $46 `LSR $nn` (R261). -/
  | lsrZp (z : Byte)
  /-- $47 `SRE $nn` (R316). -/
  | sreZp (z : Byte)
  /-- $49 `EOR #$nn` (R239). -/
  | eorImm (v : Byte)
  /-- $4B `ALR #$nn` (R323). -/
  | alrImm (v : Byte)
  /-- $4C `JMP $nnnn` (R279). -/
  | jmpAbs (l h : Byte)
  /-- $4D `EOR $nnnn` (R239). -/
  | eorAbs (l h : Byte)
  /-- $4E `LSR $nnnn` (R261). -/
  | lsrAbs (l h : Byte)
  /-- $4F `SRE $nnnn` (R316). -/
  | sreAbs (l h : Byte)
  /-- $50 `BVC label` (R273). -/
  | bvc (r : Byte)
  /-- $51 `EOR ($nn),Y` (R239). -/
  | eorIzy (z : Byte)
  /-- $53 `SRE ($nn),Y` (R316). -/
  | sreIzy (z : Byte)
  /-- $54 `NOP $nn,X` (R313). -/
  | nopZpx54 (z : Byte)
  /-- $55 `EOR $nn,X` (R239). -/
  | eorZpx (z : Byte)
  /-- $56 `LSR $nn,X` (R261). -/
  | lsrZpx (z : Byte)
  /-- $57 `SRE $nn,X` (R316). -/
  | sreZpx (z : Byte)
  /-- $59 `EOR $nnnn,Y` (R239). -/
  | eorAbsy (l h : Byte)
  /-- $5B `SRE $nnnn,Y` (R316). -/
  | sreAbsy (l h : Byte)
  /-- $5C `NOP $nnnn,X` (R313). -/
  | nopAbsx5C (l h : Byte)
  /-- $5D `EOR $nnnn,X` (R239). -/
  | eorAbsx (l h : Byte)
  /-- $5E `LSR $nnnn,X` (R261). -/
  | lsrAbsx (l h : Byte)
  /-- $5F `SRE $nnnn,X` (R316). -/
  | sreAbsx (l h : Byte)
  /-- $61 `ADC ($nn,X)` (R235). -/
  | adcIzx (z : Byte)
  /-- $63 `RRA ($nn,X)` (R317). -/
  | rraIzx (z : Byte)
  /-- $64 `NOP $nn` (R313). -/
  | nopZp64 (z : Byte)
  /-- $65 `ADC $nn` (R235). -/
  | adcZp (z : Byte)
  /-- $66 `ROR $nn` (R263). -/
  | rorZp (z : Byte)
  /-- $67 `RRA $nn` (R317). -/
  | rraZp (z : Byte)
  /-- $69 `ADC #$nn` (R235). -/
  | adcImm (v : Byte)
  /-- $6B `ARR #$nn` (R324). -/
  | arrImm (v : Byte)
  /-- $6C `JMP ($nnnn)` (R279). -/
  | jmpInd (l h : Byte)
  /-- $6D `ADC $nnnn` (R235). -/
  | adcAbs (l h : Byte)
  /-- $6E `ROR $nnnn` (R263). -/
  | rorAbs (l h : Byte)
  /-- $6F `RRA $nnnn` (R317). -/
  | rraAbs (l h : Byte)
  /-- $70 `BVS label` (R274). -/
  | bvs (r : Byte)
  /-- $71 `ADC ($nn),Y` (R235). -/
  | adcIzy (z : Byte)
  /-- $73 `RRA ($nn),Y` (R317). -/
  | rraIzy (z : Byte)
  /-- $74 `NOP $nn,X` (R313). -/
  | nopZpx74 (z : Byte)
  /-- $75 `ADC $nn,X` (R235). -/
  | adcZpx (z : Byte)
  /-- $76 `ROR $nn,X` (R263). -/
  | rorZpx (z : Byte)
  /-- $77 `RRA $nn,X` (R317). -/
  | rraZpx (z : Byte)
  /-- $79 `ADC $nnnn,Y` (R235). -/
  | adcAbsy (l h : Byte)
  /-- $7B `RRA $nnnn,Y` (R317). -/
  | rraAbsy (l h : Byte)
  /-- $7C `NOP $nnnn,X` (R313). -/
  | nopAbsx7C (l h : Byte)
  /-- $7D `ADC $nnnn,X` (R235). -/
  | adcAbsx (l h : Byte)
  /-- $7E `ROR $nnnn,X` (R263). -/
  | rorAbsx (l h : Byte)
  /-- $7F `RRA $nnnn,X` (R317). -/
  | rraAbsx (l h : Byte)
  /-- $80 `NOP #$nn` (R313). -/
  | nopImm80 (v : Byte)
  /-- $81 `STA ($nn,X)` (R213). -/
  | staIzx (z : Byte)
  /-- $82 `NOP #$nn` (R313). -/
  | nopImm82 (v : Byte)
  /-- $83 `SAX ($nn,X)` (R318). -/
  | saxIzx (z : Byte)
  /-- $84 `STY $nn` (R215). -/
  | styZp (z : Byte)
  /-- $85 `STA $nn` (R213). -/
  | staZp (z : Byte)
  /-- $86 `STX $nn` (R214). -/
  | stxZp (z : Byte)
  /-- $87 `SAX $nn` (R318). -/
  | saxZp (z : Byte)
  /-- $89 `NOP #$nn` (R313). -/
  | nopImm89 (v : Byte)
  /-- $8B `ANE #$nn` (R327). -/
  | aneImm (v : Byte)
  /-- $8C `STY $nnnn` (R215). -/
  | styAbs (l h : Byte)
  /-- $8D `STA $nnnn` (R213). -/
  | staAbs (l h : Byte)
  /-- $8E `STX $nnnn` (R214). -/
  | stxAbs (l h : Byte)
  /-- $8F `SAX $nnnn` (R318). -/
  | saxAbs (l h : Byte)
  /-- $90 `BCC label` (R275). -/
  | bcc (r : Byte)
  /-- $91 `STA ($nn),Y` (R213). -/
  | staIzy (z : Byte)
  /-- $93 `SHA ($nn),Y` (R330). -/
  | shaIzy (z : Byte)
  /-- $94 `STY $nn,X` (R215). -/
  | styZpx (z : Byte)
  /-- $95 `STA $nn,X` (R213). -/
  | staZpx (z : Byte)
  /-- $96 `STX $nn,Y` (R214). -/
  | stxZpy (z : Byte)
  /-- $97 `SAX $nn,Y` (R318). -/
  | saxZpy (z : Byte)
  /-- $99 `STA $nnnn,Y` (R213). -/
  | staAbsy (l h : Byte)
  /-- $9B `TAS $nnnn,Y` (R333). -/
  | tasAbsy (l h : Byte)
  /-- $9C `SHY $nnnn,X` (R332). -/
  | shyAbsx (l h : Byte)
  /-- $9D `STA $nnnn,X` (R213). -/
  | staAbsx (l h : Byte)
  /-- $9E `SHX $nnnn,Y` (R331). -/
  | shxAbsy (l h : Byte)
  /-- $9F `SHA $nnnn,Y` (R330). -/
  | shaAbsy (l h : Byte)
  /-- $A0 `LDY #$nn` (R212). -/
  | ldyImm (v : Byte)
  /-- $A1 `LDA ($nn,X)` (R210). -/
  | ldaIzx (z : Byte)
  /-- $A2 `LDX #$nn` (R211). -/
  | ldxImm (v : Byte)
  /-- $A3 `LAX ($nn,X)` (R319). -/
  | laxIzx (z : Byte)
  /-- $A4 `LDY $nn` (R212). -/
  | ldyZp (z : Byte)
  /-- $A5 `LDA $nn` (R210). -/
  | ldaZp (z : Byte)
  /-- $A6 `LDX $nn` (R211). -/
  | ldxZp (z : Byte)
  /-- $A7 `LAX $nn` (R319). -/
  | laxZp (z : Byte)
  /-- $A9 `LDA #$nn` (R210). -/
  | ldaImm (v : Byte)
  /-- $AB `LXA #$nn` (R328). -/
  | lxaImm (v : Byte)
  /-- $AC `LDY $nnnn` (R212). -/
  | ldyAbs (l h : Byte)
  /-- $AD `LDA $nnnn` (R210). -/
  | ldaAbs (l h : Byte)
  /-- $AE `LDX $nnnn` (R211). -/
  | ldxAbs (l h : Byte)
  /-- $AF `LAX $nnnn` (R319). -/
  | laxAbs (l h : Byte)
  /-- $B0 `BCS label` (R276). -/
  | bcs (r : Byte)
  /-- $B1 `LDA ($nn),Y` (R210). -/
  | ldaIzy (z : Byte)
  /-- $B3 `LAX ($nn),Y` (R319). -/
  | laxIzy (z : Byte)
  /-- $B4 `LDY $nn,X` (R212). -/
  | ldyZpx (z : Byte)
  /-- $B5 `LDA $nn,X` (R210). -/
  | ldaZpx (z : Byte)
  /-- $B6 `LDX $nn,Y` (R211). -/
  | ldxZpy (z : Byte)
  /-- $B7 `LAX $nn,Y` (R319). -/
  | laxZpy (z : Byte)
  /-- $B9 `LDA $nnnn,Y` (R210). -/
  | ldaAbsy (l h : Byte)
  /-- $BB `LAS $nnnn,Y` (R329). -/
  | lasAbsy (l h : Byte)
  /-- $BC `LDY $nnnn,X` (R212). -/
  | ldyAbsx (l h : Byte)
  /-- $BD `LDA $nnnn,X` (R210). -/
  | ldaAbsx (l h : Byte)
  /-- $BE `LDX $nnnn,Y` (R211). -/
  | ldxAbsy (l h : Byte)
  /-- $BF `LAX $nnnn,Y` (R319). -/
  | laxAbsy (l h : Byte)
  /-- $C0 `CPY #$nn` (R242). -/
  | cpyImm (v : Byte)
  /-- $C1 `CMP ($nn,X)` (R240). -/
  | cmpIzx (z : Byte)
  /-- $C2 `NOP #$nn` (R313). -/
  | nopImmC2 (v : Byte)
  /-- $C3 `DCP ($nn,X)` (R320). -/
  | dcpIzx (z : Byte)
  /-- $C4 `CPY $nn` (R242). -/
  | cpyZp (z : Byte)
  /-- $C5 `CMP $nn` (R240). -/
  | cmpZp (z : Byte)
  /-- $C6 `DEC $nn` (R247). -/
  | decZp (z : Byte)
  /-- $C7 `DCP $nn` (R320). -/
  | dcpZp (z : Byte)
  /-- $C9 `CMP #$nn` (R240). -/
  | cmpImm (v : Byte)
  /-- $CB `AXS #$nn` (R325). -/
  | axsImm (v : Byte)
  /-- $CC `CPY $nnnn` (R242). -/
  | cpyAbs (l h : Byte)
  /-- $CD `CMP $nnnn` (R240). -/
  | cmpAbs (l h : Byte)
  /-- $CE `DEC $nnnn` (R247). -/
  | decAbs (l h : Byte)
  /-- $CF `DCP $nnnn` (R320). -/
  | dcpAbs (l h : Byte)
  /-- $D0 `BNE label` (R277). -/
  | bne (r : Byte)
  /-- $D1 `CMP ($nn),Y` (R240). -/
  | cmpIzy (z : Byte)
  /-- $D3 `DCP ($nn),Y` (R320). -/
  | dcpIzy (z : Byte)
  /-- $D4 `NOP $nn,X` (R313). -/
  | nopZpxD4 (z : Byte)
  /-- $D5 `CMP $nn,X` (R240). -/
  | cmpZpx (z : Byte)
  /-- $D6 `DEC $nn,X` (R247). -/
  | decZpx (z : Byte)
  /-- $D7 `DCP $nn,X` (R320). -/
  | dcpZpx (z : Byte)
  /-- $D9 `CMP $nnnn,Y` (R240). -/
  | cmpAbsy (l h : Byte)
  /-- $DB `DCP $nnnn,Y` (R320). -/
  | dcpAbsy (l h : Byte)
  /-- $DC `NOP $nnnn,X` (R313). -/
  | nopAbsxDC (l h : Byte)
  /-- $DD `CMP $nnnn,X` (R240). -/
  | cmpAbsx (l h : Byte)
  /-- $DE `DEC $nnnn,X` (R247). -/
  | decAbsx (l h : Byte)
  /-- $DF `DCP $nnnn,X` (R320). -/
  | dcpAbsx (l h : Byte)
  /-- $E0 `CPX #$nn` (R241). -/
  | cpxImm (v : Byte)
  /-- $E1 `SBC ($nn,X)` (R236). -/
  | sbcIzx (z : Byte)
  /-- $E2 `NOP #$nn` (R313). -/
  | nopImmE2 (v : Byte)
  /-- $E3 `ISB ($nn,X)` (R321). -/
  | isbIzx (z : Byte)
  /-- $E4 `CPX $nn` (R241). -/
  | cpxZp (z : Byte)
  /-- $E5 `SBC $nn` (R236). -/
  | sbcZp (z : Byte)
  /-- $E6 `INC $nn` (R244). -/
  | incZp (z : Byte)
  /-- $E7 `ISB $nn` (R321). -/
  | isbZp (z : Byte)
  /-- $E9 `SBC #$nn` (R236). -/
  | sbcImm (v : Byte)
  /-- $EB `SBC #$nn` (R326). -/
  | sbcImmEB (v : Byte)
  /-- $EC `CPX $nnnn` (R241). -/
  | cpxAbs (l h : Byte)
  /-- $ED `SBC $nnnn` (R236). -/
  | sbcAbs (l h : Byte)
  /-- $EE `INC $nnnn` (R244). -/
  | incAbs (l h : Byte)
  /-- $EF `ISB $nnnn` (R321). -/
  | isbAbs (l h : Byte)
  /-- $F0 `BEQ label` (R278). -/
  | beq (r : Byte)
  /-- $F1 `SBC ($nn),Y` (R236). -/
  | sbcIzy (z : Byte)
  /-- $F3 `ISB ($nn),Y` (R321). -/
  | isbIzy (z : Byte)
  /-- $F4 `NOP $nn,X` (R313). -/
  | nopZpxF4 (z : Byte)
  /-- $F5 `SBC $nn,X` (R236). -/
  | sbcZpx (z : Byte)
  /-- $F6 `INC $nn,X` (R244). -/
  | incZpx (z : Byte)
  /-- $F7 `ISB $nn,X` (R321). -/
  | isbZpx (z : Byte)
  /-- $F9 `SBC $nnnn,Y` (R236). -/
  | sbcAbsy (l h : Byte)
  /-- $FB `ISB $nnnn,Y` (R321). -/
  | isbAbsy (l h : Byte)
  /-- $FC `NOP $nnnn,X` (R313). -/
  | nopAbsxFC (l h : Byte)
  /-- $FD `SBC $nnnn,X` (R236). -/
  | sbcAbsx (l h : Byte)
  /-- $FE `INC $nnnn,X` (R244). -/
  | incAbsx (l h : Byte)
  /-- $FF `ISB $nnnn,X` (R321). -/
  | isbAbsx (l h : Byte)
  /-- $00 `BRK` (R282). -/
  | brk
  /-- $02 `JAM` (R312). -/
  | jam02
  /-- $08 `PHP` (R291). -/
  | php
  /-- $0A `ASL A` (R260). -/
  | aslAcc
  /-- $12 `JAM` (R312). -/
  | jam12
  /-- $18 `CLC` (R294). -/
  | clc
  /-- $1A `NOP` (R313). -/
  | nopImp1A
  /-- $22 `JAM` (R312). -/
  | jam22
  /-- $28 `PLP` (R293). -/
  | plp
  /-- $2A `ROL A` (R262). -/
  | rolAcc
  /-- $32 `JAM` (R312). -/
  | jam32
  /-- $38 `SEC` (R295). -/
  | sec
  /-- $3A `NOP` (R313). -/
  | nopImp3A
  /-- $40 `RTI` (R283). -/
  | rti
  /-- $42 `JAM` (R312). -/
  | jam42
  /-- $48 `PHA` (R290). -/
  | pha
  /-- $4A `LSR A` (R261). -/
  | lsrAcc
  /-- $52 `JAM` (R312). -/
  | jam52
  /-- $58 `CLI` (R296). -/
  | cli
  /-- $5A `NOP` (R313). -/
  | nopImp5A
  /-- $60 `RTS` (R281). -/
  | rts
  /-- $62 `JAM` (R312). -/
  | jam62
  /-- $68 `PLA` (R292). -/
  | pla
  /-- $6A `ROR A` (R263). -/
  | rorAcc
  /-- $72 `JAM` (R312). -/
  | jam72
  /-- $78 `SEI` (R297). -/
  | sei
  /-- $7A `NOP` (R313). -/
  | nopImp7A
  /-- $88 `DEY` (R249). -/
  | dey
  /-- $8A `TXA` (R218). -/
  | txa
  /-- $92 `JAM` (R312). -/
  | jam92
  /-- $98 `TYA` (R219). -/
  | tya
  /-- $9A `TXS` (R221). -/
  | txs
  /-- $A8 `TAY` (R217). -/
  | tay
  /-- $AA `TAX` (R216). -/
  | tax
  /-- $B2 `JAM` (R312). -/
  | jamB2
  /-- $B8 `CLV` (R300). -/
  | clv
  /-- $BA `TSX` (R220). -/
  | tsx
  /-- $C8 `INY` (R246). -/
  | iny
  /-- $CA `DEX` (R248). -/
  | dex
  /-- $D2 `JAM` (R312). -/
  | jamD2
  /-- $D8 `CLD` (R298). -/
  | cld
  /-- $DA `NOP` (R313). -/
  | nopImpDA
  /-- $E8 `INX` (R245). -/
  | inx
  /-- $EA `NOP` (R301). -/
  | nop
  /-- $F2 `JAM` (R312). -/
  | jamF2
  /-- $F8 `SED` (R299). -/
  | sed
  /-- $FA `NOP` (R313). -/
  | nopImpFA
deriving DecidableEq, Repr

/-- The mnemonic and the operand of an instruction, as its row of the opcode table has them. -/
def Instr.form : Instr → Mnemonic × Operand
  | .brk => (.BRK, .brk)
  | .oraIzx z => (.ORA, .izx z)
  | .jam02 => (.JAM, .imp)
  | .sloIzx z => (.SLO, .izx z)
  | .nopZp04 z => (.NOP, .zp z)
  | .oraZp z => (.ORA, .zp z)
  | .aslZp z => (.ASL, .zp z)
  | .sloZp z => (.SLO, .zp z)
  | .php => (.PHP, .imp)
  | .oraImm v => (.ORA, .imm v)
  | .aslAcc => (.ASL, .acc)
  | .ancImm0B v => (.ANC, .imm v)
  | .nopAbs l h => (.NOP, .abs l h)
  | .oraAbs l h => (.ORA, .abs l h)
  | .aslAbs l h => (.ASL, .abs l h)
  | .sloAbs l h => (.SLO, .abs l h)
  | .bpl r => (.BPL, .rel r)
  | .oraIzy z => (.ORA, .izy z)
  | .jam12 => (.JAM, .imp)
  | .sloIzy z => (.SLO, .izy z)
  | .nopZpx14 z => (.NOP, .zpx z)
  | .oraZpx z => (.ORA, .zpx z)
  | .aslZpx z => (.ASL, .zpx z)
  | .sloZpx z => (.SLO, .zpx z)
  | .clc => (.CLC, .imp)
  | .oraAbsy l h => (.ORA, .absy l h)
  | .nopImp1A => (.NOP, .imp)
  | .sloAbsy l h => (.SLO, .absy l h)
  | .nopAbsx1C l h => (.NOP, .absx l h)
  | .oraAbsx l h => (.ORA, .absx l h)
  | .aslAbsx l h => (.ASL, .absx l h)
  | .sloAbsx l h => (.SLO, .absx l h)
  | .jsrAbs l h => (.JSR, .abs l h)
  | .andIzx z => (.AND, .izx z)
  | .jam22 => (.JAM, .imp)
  | .rlaIzx z => (.RLA, .izx z)
  | .bitZp z => (.BIT, .zp z)
  | .andZp z => (.AND, .zp z)
  | .rolZp z => (.ROL, .zp z)
  | .rlaZp z => (.RLA, .zp z)
  | .plp => (.PLP, .imp)
  | .andImm v => (.AND, .imm v)
  | .rolAcc => (.ROL, .acc)
  | .ancImm2B v => (.ANC, .imm v)
  | .bitAbs l h => (.BIT, .abs l h)
  | .andAbs l h => (.AND, .abs l h)
  | .rolAbs l h => (.ROL, .abs l h)
  | .rlaAbs l h => (.RLA, .abs l h)
  | .bmi r => (.BMI, .rel r)
  | .andIzy z => (.AND, .izy z)
  | .jam32 => (.JAM, .imp)
  | .rlaIzy z => (.RLA, .izy z)
  | .nopZpx34 z => (.NOP, .zpx z)
  | .andZpx z => (.AND, .zpx z)
  | .rolZpx z => (.ROL, .zpx z)
  | .rlaZpx z => (.RLA, .zpx z)
  | .sec => (.SEC, .imp)
  | .andAbsy l h => (.AND, .absy l h)
  | .nopImp3A => (.NOP, .imp)
  | .rlaAbsy l h => (.RLA, .absy l h)
  | .nopAbsx3C l h => (.NOP, .absx l h)
  | .andAbsx l h => (.AND, .absx l h)
  | .rolAbsx l h => (.ROL, .absx l h)
  | .rlaAbsx l h => (.RLA, .absx l h)
  | .rti => (.RTI, .imp)
  | .eorIzx z => (.EOR, .izx z)
  | .jam42 => (.JAM, .imp)
  | .sreIzx z => (.SRE, .izx z)
  | .nopZp44 z => (.NOP, .zp z)
  | .eorZp z => (.EOR, .zp z)
  | .lsrZp z => (.LSR, .zp z)
  | .sreZp z => (.SRE, .zp z)
  | .pha => (.PHA, .imp)
  | .eorImm v => (.EOR, .imm v)
  | .lsrAcc => (.LSR, .acc)
  | .alrImm v => (.ALR, .imm v)
  | .jmpAbs l h => (.JMP, .abs l h)
  | .eorAbs l h => (.EOR, .abs l h)
  | .lsrAbs l h => (.LSR, .abs l h)
  | .sreAbs l h => (.SRE, .abs l h)
  | .bvc r => (.BVC, .rel r)
  | .eorIzy z => (.EOR, .izy z)
  | .jam52 => (.JAM, .imp)
  | .sreIzy z => (.SRE, .izy z)
  | .nopZpx54 z => (.NOP, .zpx z)
  | .eorZpx z => (.EOR, .zpx z)
  | .lsrZpx z => (.LSR, .zpx z)
  | .sreZpx z => (.SRE, .zpx z)
  | .cli => (.CLI, .imp)
  | .eorAbsy l h => (.EOR, .absy l h)
  | .nopImp5A => (.NOP, .imp)
  | .sreAbsy l h => (.SRE, .absy l h)
  | .nopAbsx5C l h => (.NOP, .absx l h)
  | .eorAbsx l h => (.EOR, .absx l h)
  | .lsrAbsx l h => (.LSR, .absx l h)
  | .sreAbsx l h => (.SRE, .absx l h)
  | .rts => (.RTS, .imp)
  | .adcIzx z => (.ADC, .izx z)
  | .jam62 => (.JAM, .imp)
  | .rraIzx z => (.RRA, .izx z)
  | .nopZp64 z => (.NOP, .zp z)
  | .adcZp z => (.ADC, .zp z)
  | .rorZp z => (.ROR, .zp z)
  | .rraZp z => (.RRA, .zp z)
  | .pla => (.PLA, .imp)
  | .adcImm v => (.ADC, .imm v)
  | .rorAcc => (.ROR, .acc)
  | .arrImm v => (.ARR, .imm v)
  | .jmpInd l h => (.JMP, .ind l h)
  | .adcAbs l h => (.ADC, .abs l h)
  | .rorAbs l h => (.ROR, .abs l h)
  | .rraAbs l h => (.RRA, .abs l h)
  | .bvs r => (.BVS, .rel r)
  | .adcIzy z => (.ADC, .izy z)
  | .jam72 => (.JAM, .imp)
  | .rraIzy z => (.RRA, .izy z)
  | .nopZpx74 z => (.NOP, .zpx z)
  | .adcZpx z => (.ADC, .zpx z)
  | .rorZpx z => (.ROR, .zpx z)
  | .rraZpx z => (.RRA, .zpx z)
  | .sei => (.SEI, .imp)
  | .adcAbsy l h => (.ADC, .absy l h)
  | .nopImp7A => (.NOP, .imp)
  | .rraAbsy l h => (.RRA, .absy l h)
  | .nopAbsx7C l h => (.NOP, .absx l h)
  | .adcAbsx l h => (.ADC, .absx l h)
  | .rorAbsx l h => (.ROR, .absx l h)
  | .rraAbsx l h => (.RRA, .absx l h)
  | .nopImm80 v => (.NOP, .imm v)
  | .staIzx z => (.STA, .izx z)
  | .nopImm82 v => (.NOP, .imm v)
  | .saxIzx z => (.SAX, .izx z)
  | .styZp z => (.STY, .zp z)
  | .staZp z => (.STA, .zp z)
  | .stxZp z => (.STX, .zp z)
  | .saxZp z => (.SAX, .zp z)
  | .dey => (.DEY, .imp)
  | .nopImm89 v => (.NOP, .imm v)
  | .txa => (.TXA, .imp)
  | .aneImm v => (.ANE, .imm v)
  | .styAbs l h => (.STY, .abs l h)
  | .staAbs l h => (.STA, .abs l h)
  | .stxAbs l h => (.STX, .abs l h)
  | .saxAbs l h => (.SAX, .abs l h)
  | .bcc r => (.BCC, .rel r)
  | .staIzy z => (.STA, .izy z)
  | .jam92 => (.JAM, .imp)
  | .shaIzy z => (.SHA, .izy z)
  | .styZpx z => (.STY, .zpx z)
  | .staZpx z => (.STA, .zpx z)
  | .stxZpy z => (.STX, .zpy z)
  | .saxZpy z => (.SAX, .zpy z)
  | .tya => (.TYA, .imp)
  | .staAbsy l h => (.STA, .absy l h)
  | .txs => (.TXS, .imp)
  | .tasAbsy l h => (.TAS, .absy l h)
  | .shyAbsx l h => (.SHY, .absx l h)
  | .staAbsx l h => (.STA, .absx l h)
  | .shxAbsy l h => (.SHX, .absy l h)
  | .shaAbsy l h => (.SHA, .absy l h)
  | .ldyImm v => (.LDY, .imm v)
  | .ldaIzx z => (.LDA, .izx z)
  | .ldxImm v => (.LDX, .imm v)
  | .laxIzx z => (.LAX, .izx z)
  | .ldyZp z => (.LDY, .zp z)
  | .ldaZp z => (.LDA, .zp z)
  | .ldxZp z => (.LDX, .zp z)
  | .laxZp z => (.LAX, .zp z)
  | .tay => (.TAY, .imp)
  | .ldaImm v => (.LDA, .imm v)
  | .tax => (.TAX, .imp)
  | .lxaImm v => (.LXA, .imm v)
  | .ldyAbs l h => (.LDY, .abs l h)
  | .ldaAbs l h => (.LDA, .abs l h)
  | .ldxAbs l h => (.LDX, .abs l h)
  | .laxAbs l h => (.LAX, .abs l h)
  | .bcs r => (.BCS, .rel r)
  | .ldaIzy z => (.LDA, .izy z)
  | .jamB2 => (.JAM, .imp)
  | .laxIzy z => (.LAX, .izy z)
  | .ldyZpx z => (.LDY, .zpx z)
  | .ldaZpx z => (.LDA, .zpx z)
  | .ldxZpy z => (.LDX, .zpy z)
  | .laxZpy z => (.LAX, .zpy z)
  | .clv => (.CLV, .imp)
  | .ldaAbsy l h => (.LDA, .absy l h)
  | .tsx => (.TSX, .imp)
  | .lasAbsy l h => (.LAS, .absy l h)
  | .ldyAbsx l h => (.LDY, .absx l h)
  | .ldaAbsx l h => (.LDA, .absx l h)
  | .ldxAbsy l h => (.LDX, .absy l h)
  | .laxAbsy l h => (.LAX, .absy l h)
  | .cpyImm v => (.CPY, .imm v)
  | .cmpIzx z => (.CMP, .izx z)
  | .nopImmC2 v => (.NOP, .imm v)
  | .dcpIzx z => (.DCP, .izx z)
  | .cpyZp z => (.CPY, .zp z)
  | .cmpZp z => (.CMP, .zp z)
  | .decZp z => (.DEC, .zp z)
  | .dcpZp z => (.DCP, .zp z)
  | .iny => (.INY, .imp)
  | .cmpImm v => (.CMP, .imm v)
  | .dex => (.DEX, .imp)
  | .axsImm v => (.AXS, .imm v)
  | .cpyAbs l h => (.CPY, .abs l h)
  | .cmpAbs l h => (.CMP, .abs l h)
  | .decAbs l h => (.DEC, .abs l h)
  | .dcpAbs l h => (.DCP, .abs l h)
  | .bne r => (.BNE, .rel r)
  | .cmpIzy z => (.CMP, .izy z)
  | .jamD2 => (.JAM, .imp)
  | .dcpIzy z => (.DCP, .izy z)
  | .nopZpxD4 z => (.NOP, .zpx z)
  | .cmpZpx z => (.CMP, .zpx z)
  | .decZpx z => (.DEC, .zpx z)
  | .dcpZpx z => (.DCP, .zpx z)
  | .cld => (.CLD, .imp)
  | .cmpAbsy l h => (.CMP, .absy l h)
  | .nopImpDA => (.NOP, .imp)
  | .dcpAbsy l h => (.DCP, .absy l h)
  | .nopAbsxDC l h => (.NOP, .absx l h)
  | .cmpAbsx l h => (.CMP, .absx l h)
  | .decAbsx l h => (.DEC, .absx l h)
  | .dcpAbsx l h => (.DCP, .absx l h)
  | .cpxImm v => (.CPX, .imm v)
  | .sbcIzx z => (.SBC, .izx z)
  | .nopImmE2 v => (.NOP, .imm v)
  | .isbIzx z => (.ISB, .izx z)
  | .cpxZp z => (.CPX, .zp z)
  | .sbcZp z => (.SBC, .zp z)
  | .incZp z => (.INC, .zp z)
  | .isbZp z => (.ISB, .zp z)
  | .inx => (.INX, .imp)
  | .sbcImm v => (.SBC, .imm v)
  | .nop => (.NOP, .imp)
  | .sbcImmEB v => (.SBC, .imm v)
  | .cpxAbs l h => (.CPX, .abs l h)
  | .sbcAbs l h => (.SBC, .abs l h)
  | .incAbs l h => (.INC, .abs l h)
  | .isbAbs l h => (.ISB, .abs l h)
  | .beq r => (.BEQ, .rel r)
  | .sbcIzy z => (.SBC, .izy z)
  | .jamF2 => (.JAM, .imp)
  | .isbIzy z => (.ISB, .izy z)
  | .nopZpxF4 z => (.NOP, .zpx z)
  | .sbcZpx z => (.SBC, .zpx z)
  | .incZpx z => (.INC, .zpx z)
  | .isbZpx z => (.ISB, .zpx z)
  | .sed => (.SED, .imp)
  | .sbcAbsy l h => (.SBC, .absy l h)
  | .nopImpFA => (.NOP, .imp)
  | .isbAbsy l h => (.ISB, .absy l h)
  | .nopAbsxFC l h => (.NOP, .absx l h)
  | .sbcAbsx l h => (.SBC, .absx l h)
  | .incAbsx l h => (.INC, .absx l h)
  | .isbAbsx l h => (.ISB, .absx l h)

end Sys2Proof
end

