-- ==== Sys2Proof/WellFormed.lean ====
section
/-! DEFINITION. Well-formedness: the pair of mnemonic and addressing mode is one the instruction's rule lists under "operands"
(files 40 to 45). Every operand byte is legal (30_encoding.md R194), so this is the only check. -/

namespace Sys2Proof

/-- The addressing modes of a mnemonic. -/
def Mnemonic.modes : Mnemonic → List Mode
  | .BRK => [.brk]
  | .ORA => [.izx, .zp, .imm, .abs, .izy, .zpx, .absy, .absx]
  | .NOP => [.zp, .abs, .zpx, .imp, .absx, .imm]
  | .ASL => [.zp, .acc, .abs, .zpx, .absx]
  | .PHP => [.imp]
  | .BPL => [.rel]
  | .CLC => [.imp]
  | .JSR => [.abs]
  | .AND => [.izx, .zp, .imm, .abs, .izy, .zpx, .absy, .absx]
  | .BIT => [.zp, .abs]
  | .ROL => [.zp, .acc, .abs, .zpx, .absx]
  | .PLP => [.imp]
  | .BMI => [.rel]
  | .SEC => [.imp]
  | .RTI => [.imp]
  | .EOR => [.izx, .zp, .imm, .abs, .izy, .zpx, .absy, .absx]
  | .LSR => [.zp, .acc, .abs, .zpx, .absx]
  | .PHA => [.imp]
  | .JMP => [.abs, .ind]
  | .BVC => [.rel]
  | .CLI => [.imp]
  | .RTS => [.imp]
  | .ADC => [.izx, .zp, .imm, .abs, .izy, .zpx, .absy, .absx]
  | .ROR => [.zp, .acc, .abs, .zpx, .absx]
  | .PLA => [.imp]
  | .BVS => [.rel]
  | .SEI => [.imp]
  | .STA => [.izx, .zp, .abs, .izy, .zpx, .absy, .absx]
  | .STY => [.zp, .abs, .zpx]
  | .STX => [.zp, .abs, .zpy]
  | .DEY => [.imp]
  | .TXA => [.imp]
  | .BCC => [.rel]
  | .TYA => [.imp]
  | .TXS => [.imp]
  | .LDY => [.imm, .zp, .abs, .zpx, .absx]
  | .LDA => [.izx, .zp, .imm, .abs, .izy, .zpx, .absy, .absx]
  | .LDX => [.imm, .zp, .abs, .zpy, .absy]
  | .TAY => [.imp]
  | .TAX => [.imp]
  | .BCS => [.rel]
  | .CLV => [.imp]
  | .TSX => [.imp]
  | .CPY => [.imm, .zp, .abs]
  | .CMP => [.izx, .zp, .imm, .abs, .izy, .zpx, .absy, .absx]
  | .DEC => [.zp, .abs, .zpx, .absx]
  | .INY => [.imp]
  | .DEX => [.imp]
  | .BNE => [.rel]
  | .CLD => [.imp]
  | .CPX => [.imm, .zp, .abs]
  | .SBC => [.izx, .zp, .imm, .abs, .izy, .zpx, .absy, .absx]
  | .INC => [.zp, .abs, .zpx, .absx]
  | .INX => [.imp]
  | .BEQ => [.rel]
  | .SED => [.imp]
  | .JAM => [.imp]
  | .SLO => [.izx, .zp, .abs, .izy, .zpx, .absy, .absx]
  | .ANC => [.imm]
  | .RLA => [.izx, .zp, .abs, .izy, .zpx, .absy, .absx]
  | .SRE => [.izx, .zp, .abs, .izy, .zpx, .absy, .absx]
  | .ALR => [.imm]
  | .RRA => [.izx, .zp, .abs, .izy, .zpx, .absy, .absx]
  | .ARR => [.imm]
  | .SAX => [.izx, .zp, .abs, .zpy]
  | .ANE => [.imm]
  | .SHA => [.izy, .absy]
  | .TAS => [.absy]
  | .SHY => [.absx]
  | .SHX => [.absy]
  | .LAX => [.izx, .zp, .abs, .izy, .zpy, .absy]
  | .LXA => [.imm]
  | .LAS => [.absy]
  | .DCP => [.izx, .zp, .abs, .izy, .zpx, .absy, .absx]
  | .AXS => [.imm]
  | .ISB => [.izx, .zp, .abs, .izy, .zpx, .absy, .absx]

/-- A mnemonic with an operand is well-formed if the mnemonic has the operand's mode. -/
def formWellFormed (f : Mnemonic × Operand) : Bool := f.1.modes.contains f.2.mode

/-- An instruction is well-formed if its form is. -/
def Instr.wellFormed (i : Instr) : Bool := formWellFormed i.form

end Sys2Proof
end

