-- ==== Sys2Proof/Decode.lean ====
section
/-! DEFINITION. The decoder, by the whole opcode byte through the opcode map (30_encoding.md R172, R190), and the encoder. -/

namespace Sys2Proof

/-- An entry of the opcode map: operand bytes 1 and 2 to the instruction. -/
abbrev Entry := Byte → Byte → Instr

/-- An entry that has no operand byte. -/
def Entry.none (i : Instr) : Entry := fun _ _ => i

/-- An entry that has one operand byte. -/
def Entry.one (c : Byte → Instr) : Entry := fun b1 _ => c b1

/-- An entry that has two operand bytes. -/
def Entry.two (c : Byte → Byte → Instr) : Entry := fun b1 b2 => c b1 b2

open Entry

/-- Row 0x of the opcode map (R190). -/
def opcodeRow0 : List Entry :=
  [none .brk, one .oraIzx, none .jam02, one .sloIzx,
   one .nopZp04, one .oraZp, one .aslZp, one .sloZp,
   none .php, one .oraImm, none .aslAcc, one .ancImm0B,
   two .nopAbs, two .oraAbs, two .aslAbs, two .sloAbs]

/-- Row 1x of the opcode map (R190). -/
def opcodeRow1 : List Entry :=
  [one .bpl, one .oraIzy, none .jam12, one .sloIzy,
   one .nopZpx14, one .oraZpx, one .aslZpx, one .sloZpx,
   none .clc, two .oraAbsy, none .nopImp1A, two .sloAbsy,
   two .nopAbsx1C, two .oraAbsx, two .aslAbsx, two .sloAbsx]

/-- Row 2x of the opcode map (R190). -/
def opcodeRow2 : List Entry :=
  [two .jsrAbs, one .andIzx, none .jam22, one .rlaIzx,
   one .bitZp, one .andZp, one .rolZp, one .rlaZp,
   none .plp, one .andImm, none .rolAcc, one .ancImm2B,
   two .bitAbs, two .andAbs, two .rolAbs, two .rlaAbs]

/-- Row 3x of the opcode map (R190). -/
def opcodeRow3 : List Entry :=
  [one .bmi, one .andIzy, none .jam32, one .rlaIzy,
   one .nopZpx34, one .andZpx, one .rolZpx, one .rlaZpx,
   none .sec, two .andAbsy, none .nopImp3A, two .rlaAbsy,
   two .nopAbsx3C, two .andAbsx, two .rolAbsx, two .rlaAbsx]

/-- Row 4x of the opcode map (R190). -/
def opcodeRow4 : List Entry :=
  [none .rti, one .eorIzx, none .jam42, one .sreIzx,
   one .nopZp44, one .eorZp, one .lsrZp, one .sreZp,
   none .pha, one .eorImm, none .lsrAcc, one .alrImm,
   two .jmpAbs, two .eorAbs, two .lsrAbs, two .sreAbs]

/-- Row 5x of the opcode map (R190). -/
def opcodeRow5 : List Entry :=
  [one .bvc, one .eorIzy, none .jam52, one .sreIzy,
   one .nopZpx54, one .eorZpx, one .lsrZpx, one .sreZpx,
   none .cli, two .eorAbsy, none .nopImp5A, two .sreAbsy,
   two .nopAbsx5C, two .eorAbsx, two .lsrAbsx, two .sreAbsx]

/-- Row 6x of the opcode map (R190). -/
def opcodeRow6 : List Entry :=
  [none .rts, one .adcIzx, none .jam62, one .rraIzx,
   one .nopZp64, one .adcZp, one .rorZp, one .rraZp,
   none .pla, one .adcImm, none .rorAcc, one .arrImm,
   two .jmpInd, two .adcAbs, two .rorAbs, two .rraAbs]

/-- Row 7x of the opcode map (R190). -/
def opcodeRow7 : List Entry :=
  [one .bvs, one .adcIzy, none .jam72, one .rraIzy,
   one .nopZpx74, one .adcZpx, one .rorZpx, one .rraZpx,
   none .sei, two .adcAbsy, none .nopImp7A, two .rraAbsy,
   two .nopAbsx7C, two .adcAbsx, two .rorAbsx, two .rraAbsx]

/-- Row 8x of the opcode map (R190). -/
def opcodeRow8 : List Entry :=
  [one .nopImm80, one .staIzx, one .nopImm82, one .saxIzx,
   one .styZp, one .staZp, one .stxZp, one .saxZp,
   none .dey, one .nopImm89, none .txa, one .aneImm,
   two .styAbs, two .staAbs, two .stxAbs, two .saxAbs]

/-- Row 9x of the opcode map (R190). -/
def opcodeRow9 : List Entry :=
  [one .bcc, one .staIzy, none .jam92, one .shaIzy,
   one .styZpx, one .staZpx, one .stxZpy, one .saxZpy,
   none .tya, two .staAbsy, none .txs, two .tasAbsy,
   two .shyAbsx, two .staAbsx, two .shxAbsy, two .shaAbsy]

/-- Row Ax of the opcode map (R190). -/
def opcodeRowA : List Entry :=
  [one .ldyImm, one .ldaIzx, one .ldxImm, one .laxIzx,
   one .ldyZp, one .ldaZp, one .ldxZp, one .laxZp,
   none .tay, one .ldaImm, none .tax, one .lxaImm,
   two .ldyAbs, two .ldaAbs, two .ldxAbs, two .laxAbs]

/-- Row Bx of the opcode map (R190). -/
def opcodeRowB : List Entry :=
  [one .bcs, one .ldaIzy, none .jamB2, one .laxIzy,
   one .ldyZpx, one .ldaZpx, one .ldxZpy, one .laxZpy,
   none .clv, two .ldaAbsy, none .tsx, two .lasAbsy,
   two .ldyAbsx, two .ldaAbsx, two .ldxAbsy, two .laxAbsy]

/-- Row Cx of the opcode map (R190). -/
def opcodeRowC : List Entry :=
  [one .cpyImm, one .cmpIzx, one .nopImmC2, one .dcpIzx,
   one .cpyZp, one .cmpZp, one .decZp, one .dcpZp,
   none .iny, one .cmpImm, none .dex, one .axsImm,
   two .cpyAbs, two .cmpAbs, two .decAbs, two .dcpAbs]

/-- Row Dx of the opcode map (R190). -/
def opcodeRowD : List Entry :=
  [one .bne, one .cmpIzy, none .jamD2, one .dcpIzy,
   one .nopZpxD4, one .cmpZpx, one .decZpx, one .dcpZpx,
   none .cld, two .cmpAbsy, none .nopImpDA, two .dcpAbsy,
   two .nopAbsxDC, two .cmpAbsx, two .decAbsx, two .dcpAbsx]

/-- Row Ex of the opcode map (R190). -/
def opcodeRowE : List Entry :=
  [one .cpxImm, one .sbcIzx, one .nopImmE2, one .isbIzx,
   one .cpxZp, one .sbcZp, one .incZp, one .isbZp,
   none .inx, one .sbcImm, none .nop, one .sbcImmEB,
   two .cpxAbs, two .sbcAbs, two .incAbs, two .isbAbs]

/-- Row Fx of the opcode map (R190). -/
def opcodeRowF : List Entry :=
  [one .beq, one .sbcIzy, none .jamF2, one .isbIzy,
   one .nopZpxF4, one .sbcZpx, one .incZpx, one .isbZpx,
   none .sed, two .sbcAbsy, none .nopImpFA, two .isbAbsy,
   two .nopAbsxFC, two .sbcAbsx, two .incAbsx, two .isbAbsx]

/-- The opcode map of R190: 256 entries. -/
def opcodeMap : List Entry :=
  opcodeRow0 ++ opcodeRow1 ++ opcodeRow2 ++ opcodeRow3 ++
  opcodeRow4 ++ opcodeRow5 ++ opcodeRow6 ++ opcodeRow7 ++
  opcodeRow8 ++ opcodeRow9 ++ opcodeRowA ++ opcodeRowB ++
  opcodeRowC ++ opcodeRowD ++ opcodeRowE ++ opcodeRowF

/-- The instruction of an opcode byte and its operand bytes; unused operand bytes are ignored. -/
def decodeOp (op b1 b2 : Byte) : Instr := opcodeMap.getD op.toNat (Entry.none .brk) b1 b2

/-- How many operand bytes the fetch of R173 reads after the opcode: none for BRK, whose padding byte is never read. -/
def operandCount (op : Byte) : Nat := (decodeOp op 0 0).form.2.bytes.length

/-- The length of an instruction in bytes, the opcode table's `bytes` (R170, R171): BRK has its padding byte. -/
def instrLength (op : Byte) : Nat := if op = 0x00 then 2 else 1 + operandCount op

/-- Why a list of bytes decodes to no instruction. No opcode value is illegal (R194). -/
inductive DecodeError where
  /-- There is no byte. -/
  | noOpcode
  /-- The list ends before the instruction does. -/
  | missingOperand
deriving DecidableEq, Repr

/-- Decode the first instruction of a list of bytes; the answer holds the bytes after it. -/
def decode : List Byte → Except DecodeError (Instr × List Byte)
  | [] => .error .noOpcode
  | op :: rest =>
    if rest.length < instrLength op - 1 then .error .missingOperand
    else .ok (decodeOp op (rest.getD 0 0) (rest.getD 1 0), rest.drop (instrLength op - 1))

/-- The JAM set (R192). -/
def jamOpcodes : List Byte :=
  [0x02, 0x12, 0x22, 0x32, 0x42, 0x52, 0x62, 0x72, 0x92, 0xB2, 0xD2, 0xF2]

/-- The undocumented set (R193): the other 93 opcodes. -/
def undocumentedOpcodes : List Byte :=
  [0x03, 0x04, 0x07, 0x0B, 0x0C, 0x0F, 0x13, 0x14, 0x17, 0x1A, 0x1B, 0x1C, 0x1F, 0x23, 0x27, 0x2B] ++
  [0x2F, 0x33, 0x34, 0x37, 0x3A, 0x3B, 0x3C, 0x3F, 0x43, 0x44, 0x47, 0x4B, 0x4F, 0x53, 0x54, 0x57] ++
  [0x5A, 0x5B, 0x5C, 0x5F, 0x63, 0x64, 0x67, 0x6B, 0x6F, 0x73, 0x74, 0x77, 0x7A, 0x7B, 0x7C, 0x7F] ++
  [0x80, 0x82, 0x83, 0x87, 0x89, 0x8B, 0x8F, 0x93, 0x97, 0x9B, 0x9C, 0x9E, 0x9F, 0xA3, 0xA7, 0xAB] ++
  [0xAF, 0xB3, 0xB7, 0xBB, 0xBF, 0xC2, 0xC3, 0xC7, 0xCB, 0xCF, 0xD3, 0xD4, 0xD7, 0xDA, 0xDB, 0xDC] ++
  [0xDF, 0xE2, 0xE3, 0xE7, 0xEB, 0xEF, 0xF3, 0xF4, 0xF7, 0xFA, 0xFB, 0xFC, 0xFF]

/-- Is an opcode in the undocumented set? -/
def isUndocumented (op : Byte) : Bool := undocumentedOpcodes.contains op

/-- The instruction that a table row's bits stand for: `nbits` bits of `w`, the bits above them zero, low byte first. -/
def decodeTableWord (nbits w : Nat) : Option Instr :=
  let b (k : Nat) : Byte := BitVec.ofNat 8 (w % 2 ^ nbits / 256 ^ k)
  match decode [b 0, b 1, b 2] with
  | .ok (i, _) => some i
  | .error _ => Option.none

/-! ### Encoder -/

/-- The opcode byte of an instruction (R190). -/
def Instr.opcode : Instr → Byte
  | .brk => 0x00
  | .oraIzx _ => 0x01
  | .jam02 => 0x02
  | .sloIzx _ => 0x03
  | .nopZp04 _ => 0x04
  | .oraZp _ => 0x05
  | .aslZp _ => 0x06
  | .sloZp _ => 0x07
  | .php => 0x08
  | .oraImm _ => 0x09
  | .aslAcc => 0x0A
  | .ancImm0B _ => 0x0B
  | .nopAbs _ _ => 0x0C
  | .oraAbs _ _ => 0x0D
  | .aslAbs _ _ => 0x0E
  | .sloAbs _ _ => 0x0F
  | .bpl _ => 0x10
  | .oraIzy _ => 0x11
  | .jam12 => 0x12
  | .sloIzy _ => 0x13
  | .nopZpx14 _ => 0x14
  | .oraZpx _ => 0x15
  | .aslZpx _ => 0x16
  | .sloZpx _ => 0x17
  | .clc => 0x18
  | .oraAbsy _ _ => 0x19
  | .nopImp1A => 0x1A
  | .sloAbsy _ _ => 0x1B
  | .nopAbsx1C _ _ => 0x1C
  | .oraAbsx _ _ => 0x1D
  | .aslAbsx _ _ => 0x1E
  | .sloAbsx _ _ => 0x1F
  | .jsrAbs _ _ => 0x20
  | .andIzx _ => 0x21
  | .jam22 => 0x22
  | .rlaIzx _ => 0x23
  | .bitZp _ => 0x24
  | .andZp _ => 0x25
  | .rolZp _ => 0x26
  | .rlaZp _ => 0x27
  | .plp => 0x28
  | .andImm _ => 0x29
  | .rolAcc => 0x2A
  | .ancImm2B _ => 0x2B
  | .bitAbs _ _ => 0x2C
  | .andAbs _ _ => 0x2D
  | .rolAbs _ _ => 0x2E
  | .rlaAbs _ _ => 0x2F
  | .bmi _ => 0x30
  | .andIzy _ => 0x31
  | .jam32 => 0x32
  | .rlaIzy _ => 0x33
  | .nopZpx34 _ => 0x34
  | .andZpx _ => 0x35
  | .rolZpx _ => 0x36
  | .rlaZpx _ => 0x37
  | .sec => 0x38
  | .andAbsy _ _ => 0x39
  | .nopImp3A => 0x3A
  | .rlaAbsy _ _ => 0x3B
  | .nopAbsx3C _ _ => 0x3C
  | .andAbsx _ _ => 0x3D
  | .rolAbsx _ _ => 0x3E
  | .rlaAbsx _ _ => 0x3F
  | .rti => 0x40
  | .eorIzx _ => 0x41
  | .jam42 => 0x42
  | .sreIzx _ => 0x43
  | .nopZp44 _ => 0x44
  | .eorZp _ => 0x45
  | .lsrZp _ => 0x46
  | .sreZp _ => 0x47
  | .pha => 0x48
  | .eorImm _ => 0x49
  | .lsrAcc => 0x4A
  | .alrImm _ => 0x4B
  | .jmpAbs _ _ => 0x4C
  | .eorAbs _ _ => 0x4D
  | .lsrAbs _ _ => 0x4E
  | .sreAbs _ _ => 0x4F
  | .bvc _ => 0x50
  | .eorIzy _ => 0x51
  | .jam52 => 0x52
  | .sreIzy _ => 0x53
  | .nopZpx54 _ => 0x54
  | .eorZpx _ => 0x55
  | .lsrZpx _ => 0x56
  | .sreZpx _ => 0x57
  | .cli => 0x58
  | .eorAbsy _ _ => 0x59
  | .nopImp5A => 0x5A
  | .sreAbsy _ _ => 0x5B
  | .nopAbsx5C _ _ => 0x5C
  | .eorAbsx _ _ => 0x5D
  | .lsrAbsx _ _ => 0x5E
  | .sreAbsx _ _ => 0x5F
  | .rts => 0x60
  | .adcIzx _ => 0x61
  | .jam62 => 0x62
  | .rraIzx _ => 0x63
  | .nopZp64 _ => 0x64
  | .adcZp _ => 0x65
  | .rorZp _ => 0x66
  | .rraZp _ => 0x67
  | .pla => 0x68
  | .adcImm _ => 0x69
  | .rorAcc => 0x6A
  | .arrImm _ => 0x6B
  | .jmpInd _ _ => 0x6C
  | .adcAbs _ _ => 0x6D
  | .rorAbs _ _ => 0x6E
  | .rraAbs _ _ => 0x6F
  | .bvs _ => 0x70
  | .adcIzy _ => 0x71
  | .jam72 => 0x72
  | .rraIzy _ => 0x73
  | .nopZpx74 _ => 0x74
  | .adcZpx _ => 0x75
  | .rorZpx _ => 0x76
  | .rraZpx _ => 0x77
  | .sei => 0x78
  | .adcAbsy _ _ => 0x79
  | .nopImp7A => 0x7A
  | .rraAbsy _ _ => 0x7B
  | .nopAbsx7C _ _ => 0x7C
  | .adcAbsx _ _ => 0x7D
  | .rorAbsx _ _ => 0x7E
  | .rraAbsx _ _ => 0x7F
  | .nopImm80 _ => 0x80
  | .staIzx _ => 0x81
  | .nopImm82 _ => 0x82
  | .saxIzx _ => 0x83
  | .styZp _ => 0x84
  | .staZp _ => 0x85
  | .stxZp _ => 0x86
  | .saxZp _ => 0x87
  | .dey => 0x88
  | .nopImm89 _ => 0x89
  | .txa => 0x8A
  | .aneImm _ => 0x8B
  | .styAbs _ _ => 0x8C
  | .staAbs _ _ => 0x8D
  | .stxAbs _ _ => 0x8E
  | .saxAbs _ _ => 0x8F
  | .bcc _ => 0x90
  | .staIzy _ => 0x91
  | .jam92 => 0x92
  | .shaIzy _ => 0x93
  | .styZpx _ => 0x94
  | .staZpx _ => 0x95
  | .stxZpy _ => 0x96
  | .saxZpy _ => 0x97
  | .tya => 0x98
  | .staAbsy _ _ => 0x99
  | .txs => 0x9A
  | .tasAbsy _ _ => 0x9B
  | .shyAbsx _ _ => 0x9C
  | .staAbsx _ _ => 0x9D
  | .shxAbsy _ _ => 0x9E
  | .shaAbsy _ _ => 0x9F
  | .ldyImm _ => 0xA0
  | .ldaIzx _ => 0xA1
  | .ldxImm _ => 0xA2
  | .laxIzx _ => 0xA3
  | .ldyZp _ => 0xA4
  | .ldaZp _ => 0xA5
  | .ldxZp _ => 0xA6
  | .laxZp _ => 0xA7
  | .tay => 0xA8
  | .ldaImm _ => 0xA9
  | .tax => 0xAA
  | .lxaImm _ => 0xAB
  | .ldyAbs _ _ => 0xAC
  | .ldaAbs _ _ => 0xAD
  | .ldxAbs _ _ => 0xAE
  | .laxAbs _ _ => 0xAF
  | .bcs _ => 0xB0
  | .ldaIzy _ => 0xB1
  | .jamB2 => 0xB2
  | .laxIzy _ => 0xB3
  | .ldyZpx _ => 0xB4
  | .ldaZpx _ => 0xB5
  | .ldxZpy _ => 0xB6
  | .laxZpy _ => 0xB7
  | .clv => 0xB8
  | .ldaAbsy _ _ => 0xB9
  | .tsx => 0xBA
  | .lasAbsy _ _ => 0xBB
  | .ldyAbsx _ _ => 0xBC
  | .ldaAbsx _ _ => 0xBD
  | .ldxAbsy _ _ => 0xBE
  | .laxAbsy _ _ => 0xBF
  | .cpyImm _ => 0xC0
  | .cmpIzx _ => 0xC1
  | .nopImmC2 _ => 0xC2
  | .dcpIzx _ => 0xC3
  | .cpyZp _ => 0xC4
  | .cmpZp _ => 0xC5
  | .decZp _ => 0xC6
  | .dcpZp _ => 0xC7
  | .iny => 0xC8
  | .cmpImm _ => 0xC9
  | .dex => 0xCA
  | .axsImm _ => 0xCB
  | .cpyAbs _ _ => 0xCC
  | .cmpAbs _ _ => 0xCD
  | .decAbs _ _ => 0xCE
  | .dcpAbs _ _ => 0xCF
  | .bne _ => 0xD0
  | .cmpIzy _ => 0xD1
  | .jamD2 => 0xD2
  | .dcpIzy _ => 0xD3
  | .nopZpxD4 _ => 0xD4
  | .cmpZpx _ => 0xD5
  | .decZpx _ => 0xD6
  | .dcpZpx _ => 0xD7
  | .cld => 0xD8
  | .cmpAbsy _ _ => 0xD9
  | .nopImpDA => 0xDA
  | .dcpAbsy _ _ => 0xDB
  | .nopAbsxDC _ _ => 0xDC
  | .cmpAbsx _ _ => 0xDD
  | .decAbsx _ _ => 0xDE
  | .dcpAbsx _ _ => 0xDF
  | .cpxImm _ => 0xE0
  | .sbcIzx _ => 0xE1
  | .nopImmE2 _ => 0xE2
  | .isbIzx _ => 0xE3
  | .cpxZp _ => 0xE4
  | .sbcZp _ => 0xE5
  | .incZp _ => 0xE6
  | .isbZp _ => 0xE7
  | .inx => 0xE8
  | .sbcImm _ => 0xE9
  | .nop => 0xEA
  | .sbcImmEB _ => 0xEB
  | .cpxAbs _ _ => 0xEC
  | .sbcAbs _ _ => 0xED
  | .incAbs _ _ => 0xEE
  | .isbAbs _ _ => 0xEF
  | .beq _ => 0xF0
  | .sbcIzy _ => 0xF1
  | .jamF2 => 0xF2
  | .isbIzy _ => 0xF3
  | .nopZpxF4 _ => 0xF4
  | .sbcZpx _ => 0xF5
  | .incZpx _ => 0xF6
  | .isbZpx _ => 0xF7
  | .sed => 0xF8
  | .sbcAbsy _ _ => 0xF9
  | .nopImpFA => 0xFA
  | .isbAbsy _ _ => 0xFB
  | .nopAbsxFC _ _ => 0xFC
  | .sbcAbsx _ _ => 0xFD
  | .incAbsx _ _ => 0xFE
  | .isbAbsx _ _ => 0xFF

/-- The bytes of an instruction (R171). BRK's padding byte is encoded as $00 (log 14). -/
def encode (i : Instr) : List Byte :=
  match i with
  | .brk => [0x00, 0x00]
  | _ => i.opcode :: i.form.2.bytes

end Sys2Proof
end

