-- ==== Sys2Proof/Machine/Bits.lean ====
section
/-! DEFINITION. Bit-field, sign-extension and byte-order helpers (00_scope.md R8). -/

namespace Sys2Proof.Machine

/-- `{hi, lo}` of two bytes (R8). -/
def mkAddr (hi lo : Byte) : Addr := hi ++ lo

/-- `a[15:8]`. -/
def hiByte (a : Addr) : Byte := a.extractLsb' 8 8

/-- `a[7:0]`. -/
def loByte (a : Addr) : Byte := a.extractLsb' 0 8

/-- `zext_16(b)`: an address in page zero. -/
def zext (b : Byte) : Addr := b.setWidth 16

/-- `sext_8(b)` within 16 bits. -/
def sext (b : Byte) : Addr := b.signExtend 16

/-- `$0100 + S`, the stack byte that `S` addresses (10_state.md R33). -/
def stackAddr (sp : Byte) : Addr := mkAddr 0x01 sp

/-- `addr[15:12]`, the CPU page of an address (00_scope.md R14). -/
def pageOf (a : Addr) : Fin 16 := ⟨a.toNat / 4096, by have := a.isLt; omega⟩

/-- `addr[11:0]`, the offset in a CPU page. -/
def pageOffset (a : Addr) : Nat := a.toNat % 4096

/-- `a[13:10]`, the PPU page of a PPU address. -/
def ppuPageOf (a : PpuAddr) : Fin 16 := ⟨a.toNat / 1024, by have := a.isLt; omega⟩

/-- `a[9:0]`, the offset in a PPU page. -/
def ppuPageOffset (a : PpuAddr) : Nat := a.toNat % 1024

/-- A bit as a byte, shifted to position `k`. -/
def bitAt (b : Bool) (k : Nat) : Byte := if b then (1 : Byte) <<< k else 0

/-- Bits `lo .. lo+len-1` of a 15-bit register replaced by `x` (10_state.md R58: the fields of `v` and `t`). -/
def putField (r : BitVec 15) (lo len : Nat) (x : Nat) : BitVec 15 :=
  let mask : BitVec 15 := BitVec.ofNat 15 (2 ^ len - 1) <<< lo
  (r &&& ~~~mask) ||| ((BitVec.ofNat 15 x <<< lo) &&& mask)

/-- Bits `lo .. lo+len-1` of a 15-bit register, as a number. -/
def getField (r : BitVec 15) (lo len : Nat) : Nat := r.toNat / 2 ^ lo % 2 ^ len

end Sys2Proof.Machine
end

