-- ==== Sys2Proof/Config.lean ====
section
/-! DEFINITION. What the spec leaves open (00_scope.md R7, R11; 92_eei_decisions.md "Parameters left OPEN"): constants with
no body, so that no proof can see a value. The decided numbers of R7 stand in Machine/Params.lean. -/

namespace Sys2Proof

/-- The two values of `UNDOC_POLICY` (45_jam_undocumented.md R310). -/
inductive UndocPolicy where
  | refuse
  | nmos
deriving DecidableEq, Repr

/-- What the end of a slice with a $4017 write does to the FIQ period after the slice's `FiqTick` (64_frame_sync.md R560). `atWrite`:
nothing, as in R560's pseudocode; the restart at the write is the only one. `atSliceEnd`: the period restarts, so that the next FIQ is a
whole period "after the end of the slice containing the write", the words of 70_reset_and_hazards.md R612 read to the cycle (log 36). -/
inductive FiqRestart where
  | atWrite
  | atSliceEnd
deriving DecidableEq, Repr

/-- The channels of the APU (62_apu.md R460). -/
inductive Channel where
  | rect0
  | rect1
  | triangle
  | noise
  | dmc
deriving DecidableEq, Repr

/-- `JAM_CYCLES`, OPEN (D8; log 6). -/
opaque Config.jamCycles : Nat

/-- `RESET_CYCLES`, OPEN (D14; log 6). -/
opaque Config.resetCycles : Nat

/-- `ANE_MAGIC`, OPEN (D7; log 6). -/
opaque Config.aneMagic : Byte

/-- `LXA_MAGIC`, OPEN (D7; log 6). -/
opaque Config.lxaMagic : Byte

/-- The `n`-th `draw()` of a run (R11; log 5): a free byte. -/
opaque Config.draw : Nat → Byte

/-- `InputOracle` (64_frame_sync.md R570, R573; log 10): is button `k` of pad `p` pressed at the read numbered `n`? -/
opaque Config.inputOracle : (p : Nat) → (k : Nat) → (n : Nat) → Bool

/-- `DRAW_FLAG` of a frame that the host starts with no call pending (R554; log 11), by the number of draws so far. -/
opaque Config.drawFlag : Nat → Bool

/-- `SAMPLE_RATE`, the host's audio rate (D33; log 9). -/
opaque Config.sampleRate : Nat

/-- `SAMPLE_BITS` is 16 (true) or 8 (false) (D33; log 9). -/
opaque Config.sampleBits16 : Bool

/-- `DMC_SCHEDULE`, OPEN (D35; log 7): fetches before output sample `k`, by DMC rate index and sample rate. -/
opaque Config.dmcSchedule : (rate : BitVec 4) → (sampleRate : Nat) → (k : Nat) → Nat

/-- The phase of the DMC's bit clock at reset (62_apu.md R476 gives its rate alone; log 7). -/
opaque Config.dmcPhase : Nat

/-- `ApuSynth`'s initial state, one number for each channel and one for the filter (R478; log 8). -/
opaque Config.synthInit : List Nat

/-- `ApuSynth.channel` for one output sample (R468; log 8): the channel's registers, its period by R469 and its state to its sample
and new state. -/
opaque Config.synthChannel : Channel → (regs : List Byte) → (period : Nat) → (synth : Nat) → Int × Nat

/-- `ApuSynth.filter` (R473; log 8): the raw sum and the filter's state to the filtered sample and new state. -/
opaque Config.synthFilter : (raw : Int) → (synth : Nat) → Int × Nat

/-- The phase of R464's length countdown, in sixtieths of its step, `ApuSynth`'s (log 8). -/
opaque Config.lengthPhase : Nat

/-- R471: does the armed linear counter count down at sample `k`? The rate is `ApuSynth`'s; that it is at most one step in a sample, by the
number of the sample alone, is a DESIGN CHOICE (log 8). -/
opaque Config.linearTick : (k : Nat) → Bool

/-- R471: the linear counter after sample `k` while reg0[7] = 1, whatever `tri_delay` is, `ApuSynth`'s (log 8). -/
opaque Config.linearReload : (reg0 : Byte) → (linear : Nat) → (delay : Nat) → (k : Nat) → Nat

end Sys2Proof
end

