-- ==== Sys2Proof/Machine/Memory.lean ====
section
/-! DEFINITION. Memory as a list of (offset, byte) cells in one canonical form: offsets strictly rising, no entry equal to
what an unlisted offset reads as, which is 0 everywhere (10_state.md R47 for CPU RAM; log 4 for the rest). -/

namespace Sys2Proof.Machine

/-- One memory of the machine, sparse. -/
abbrev Memory := List Host.Cell

/-- What an unlisted offset reads as: 0 (R47 for CPU RAM; DESIGN CHOICE of log 4 elsewhere). -/
def Memory.unlisted : Byte := 0

/-- The byte at offset `k`. -/
def Memory.read : Memory → Nat → Byte
  | [], _ => Memory.unlisted
  | (a, v) :: m, k => if a = k then v else Memory.read m k

/-- Put a cell before a memory whose offsets are all larger, leaving out the unlisted value. -/
def Memory.consCell (k : Nat) (v : Byte) (m : Memory) : Memory :=
  if v = Memory.unlisted then m else (k, v) :: m

/-- Store `v` at offset `k`; storing the unlisted value removes the entry. -/
def Memory.write : Memory → Nat → Byte → Memory
  | [], k, v => Memory.consCell k v []
  | (a, w) :: m, k, v =>
    if k < a then Memory.consCell k v ((a, w) :: m)
    else if k = a then Memory.consCell k v m
    else (a, w) :: Memory.write m k v

/-- Are all offsets at least `k`, strictly rising, and no value the unlisted one? -/
def Memory.wfFrom : Nat → Memory → Bool
  | _, [] => true
  | k, (a, v) :: m => decide (k ≤ a) && decide (v ≠ Memory.unlisted) && Memory.wfFrom (a + 1) m

/-- The canonical form. -/
def Memory.wf (m : Memory) : Bool := Memory.wfFrom 0 m

/-- The memory that holds the bytes of a list from offset `k` on. -/
def Memory.ofBytesFrom : Nat → List Byte → Memory
  | _, [] => []
  | k, b :: bs => Memory.consCell k b (Memory.ofBytesFrom (k + 1) bs)

/-- The memory that holds the bytes of a list. -/
def Memory.ofBytes (bs : List Byte) : Memory := Memory.ofBytesFrom 0 bs

/-- Store the bytes of a list at consecutive offsets from `k` on. -/
def Memory.writeBytes : Memory → Nat → List Byte → Memory
  | m, _, [] => m
  | m, k, b :: bs => Memory.writeBytes (m.write k b) (k + 1) bs

end Sys2Proof.Machine
end

