-- ==== Sys2Proof/Machine/Params.lean ====
section
/-! DEFINITION. The parameters of 00_scope.md R7 that the spec decides, and the model's initial `UNDOC_POLICY`. -/

namespace Sys2Proof.Machine

/-- `DECIMAL_MODE = false` (D5). -/
def decimalMode : Bool := false

/-- `INT_CYCLES` (D10). -/
def intCycles : Nat := 7

/-- `OAM_DMA_CYCLES` (D32). -/
def oamDmaCycles : Nat := 513

/-- `RESET_SCANLINE` (D38). -/
def resetScanline : Nat := 241

/-- `MASTER_CLOCK` in Hz (D36). -/
def masterClock : Nat := 21477272

/-- `CLOCK_DIVIDER` (D36). -/
def clockDivider : Nat := 12

/-- `FIQ_PERIOD`: floor(`MASTER_CLOCK` / `CLOCK_DIVIDER` / 60) = 29829 (D36, 64_frame_sync.md R560). -/
def fiqPeriod : Nat := masterClock / clockDivider / 60

/-- `TRI_LATENCY` in output samples (D33). -/
def triLatency : Nat := 4

/-- Twelfths of a CPU cycle in a scanline: 1364 (64_frame_sync.md R550). -/
def lineTwelfths : Int := 1364

/-- The CPU delay at scanline 241 (R550). -/
def nmiDelayCycles : Int := 7

/-- `LENGTH_TABLE` in frames (62_apu.md R463). -/
def lengthTable : List Nat :=
  [5, 127, 10, 1, 20, 2, 40, 3, 80, 4, 30, 5, 7, 6, 13, 7] ++
  [6, 8, 12, 9, 24, 10, 48, 11, 96, 12, 36, 13, 8, 14, 16, 15]

/-- Noise periods in CPU cycles, by period index (62_apu.md R469). -/
def noisePeriods : List Nat := [4, 8, 16, 32, 64, 96, 128, 160, 202, 254, 380, 508, 762, 1016, 2034, 4068]

/-- DMC rates in CPU cycles per output bit, by rate index (62_apu.md R469). -/
def dmcRates : List Nat := [428, 380, 340, 320, 286, 254, 226, 214, 190, 160, 142, 128, 106, 84, 72, 54]

/-- `UNDOC_POLICY` at reset: the default of R7 (D6; that State holds it is log 1). -/
def initialUndocPolicy : UndocPolicy := .refuse

/-- A run restarts the FIQ period at a $4017 write and nowhere else, as the pseudocode of 64_frame_sync.md R560 does (log 36). -/
def initialFiqRestart : FiqRestart := .atWrite

end Sys2Proof.Machine
end

