-- ==== Sys2Proof/Machine/State.lean ====
section
/-! DEFINITION. The machine's state (10_state.md R30-R74), the two reason types, and the state after reset (R593). -/

namespace Sys2Proof.Machine

/-- The flags (R35). B is not stored (R38, D48). -/
structure Flags where
  n : Bool
  v : Bool
  d : Bool
  i : Bool
  z : Bool
  c : Bool
deriving DecidableEq, Repr

/-- The CPU registers (R30-R35). -/
structure Cpu where
  a : Byte
  x : Byte
  y : Byte
  sp : Byte
  pc : Addr
  f : Flags
deriving DecidableEq, Repr

/-- The CPU's run-control state (R40-R44, R48). -/
structure Run where
  cycles : Nat
  remaining : Int
  burn : Nat
  intPending : Bool
  jammed : Bool
  refused : Bool
deriving DecidableEq, Repr

/-- What a CPU page can reference (R45). -/
inductive Region where
  | ram
  | sram
  | prg
deriving DecidableEq, Repr

/-- An entry of the CPU page table (R45). -/
inductive Page where
  | dead
  | mapped (region : Region) (base : Nat)
deriving DecidableEq, Repr

/-- What a PPU page can reference (R52): CHR-ROM or CHR-RAM, or nametable RAM. -/
inductive PpuRegion where
  | chr
  | nt
deriving DecidableEq, Repr

/-- An entry of the PPU page table (R52). -/
structure PpuPage where
  region : PpuRegion
  base : Nat
deriving DecidableEq, Repr

/-- The memories (R47, R49-R51, R53, R66, R67). -/
structure Mems where
  ram : Memory
  sram : Memory
  prg : Memory
  chr : Memory
  nt : Memory
  oam : Memory
  pal : Memory
deriving DecidableEq, Repr

/-- The PPU's registers (R54-R63) and page table (R52). -/
structure Ppu where
  ctrl0 : Byte
  ctrl1 : Byte
  vblank : Bool
  overflow : Bool
  oamaddr : Byte
  v : BitVec 15
  t : BitVec 15
  fineX : BitVec 3
  w : Bool
  rdbuf : Byte
  strikeFlag : Bool
  strikeCycle : Nat
  vramAccessible : Bool
  pages : Vector PpuPage 16
deriving DecidableEq, Repr

/-- A rectangle channel (R64). -/
structure Rect where
  reg0 : Byte
  reg1 : Byte
  reg2 : Byte
  reg3 : Byte
  length : Nat
deriving DecidableEq, Repr

/-- The triangle channel (R64). -/
structure Triangle where
  reg0 : Byte
  reg2 : Byte
  reg3 : Byte
  length : Nat
  linear : Nat
  delay : Nat
deriving DecidableEq, Repr

/-- The noise channel (R64). -/
structure Noise where
  reg0 : Byte
  reg2 : Byte
  reg3 : Byte
  length : Nat
deriving DecidableEq, Repr

/-- The DMC (R64). `bits`: sample bits fetched and not yet output, oldest first; `timer`: the time since the last output bit, in
units of 1 / (`CLOCK_DIVIDER` × `SAMPLE_RATE`) CPU cycle (62_apu.md R469, R476; log 7). -/
structure Dmc where
  reg0 : Byte
  reg1 : Byte
  reg2 : Byte
  reg3 : Byte
  addr : Addr
  remaining : Nat
  irq : Bool
  level : BitVec 7
  bits : List Bool
  timer : Nat
deriving DecidableEq, Repr

/-- The APU (R64, R65). `synth`: `ApuSynth`'s opaque state; `clock`: output samples generated since reset (log 8). -/
structure Apu where
  rect0 : Rect
  rect1 : Rect
  tri : Triangle
  noise : Noise
  dmc : Dmc
  enable : BitVec 5
  synth : List Nat
  clock : Nat
deriving DecidableEq, Repr

/-- The header half of the rominfo (R66), and whether a cartridge is attached (64_frame_sync.md R581). -/
structure Cart where
  attached : Bool
  mapper : Nat
  prgBanks : Nat
  chrBanks : Nat
  vertical : Bool
  battery : Bool
  trainer : Bool
  fourScreen : Bool
deriving DecidableEq, Repr

/-- MMC1's private state (R68). -/
structure Mmc1 where
  shift : BitVec 5
  bitcount : Nat
  reg0 : BitVec 5
  reg1 : BitVec 5
  reg2 : BitVec 5
  reg3 : BitVec 5
deriving DecidableEq, Repr

/-- MMC3's private state (R69). -/
structure Mmc3 where
  command : Byte
  bank : Vector Byte 8
  irqLatch : Byte
  irqCounter : Int
  irqEnabled : Bool
deriving DecidableEq, Repr

/-- The two slices of the frame loop (64_frame_sync.md R550): the 7-cycle delay of line 241, and a line's own slice. -/
inductive SliceKind where
  | nmiDelay
  | line
deriving DecidableEq, Repr

/-- Where the frame loop stands (log 12). `slice k start`: inside `execute`, entered when `cycles` was `start`. -/
inductive Phase where
  | idle
  | lineStart
  | slice (kind : SliceKind) (start : Nat)
deriving DecidableEq, Repr

/-- The orchestrator (R70, R71, R73), its control point and the frame's DRAW_FLAG. -/
structure Orch where
  scanline : Nat
  acc : Int
  inVblank : Bool
  phase : Phase
  draw : Bool
deriving DecidableEq, Repr

/-- The FIQ timer (R72), and the model's own mark that a $4017 write restarted it in this slice (70_reset_and_hazards.md R612;
log 36). -/
structure Fiq where
  cycles : Int
  state : Byte
  occurred : Bool
  restarted : Bool
deriving DecidableEq, Repr

/-- The joypad read counters (R74). -/
structure Pads where
  index0 : Nat
  index1 : Nat
deriving DecidableEq, Repr

/-- What `save_state` keeps (64_frame_sync.md R579): the state of R30-R74. -/
structure Snapshot where
  cpu : Cpu
  run : Run
  pages : Vector Page 16
  mem : Mems
  ppu : Ppu
  apu : Apu
  cart : Cart
  mmc1 : Mmc1
  mmc3 : Mmc3
  orch : Orch
  fiq : Fiq
  pads : Pads
deriving DecidableEq, Repr

/-- The operations the host can call (64_frame_sync.md R576). Input events are the oracle's (R573; log 10). -/
inductive HostCall where
  | insert (image : List Byte) (batteryImage : Option (List Byte))
  | eject
  | renderframe (draw : Bool)
  | softReset
  | hardReset
  | apuProcess (numSamples : Nat)
  | saveState
  | loadState (snapshot : Snapshot)
deriving DecidableEq, Repr

/-- The status that the last `insert`, or the last failed `load_state`, returned (R578, R580; the kinds of failure are the model's,
log 37; `otherCartridge` is a load's, log 18). -/
inductive LoadStatus where
  | none
  | loaded
  | badMagic
  | noPrgBanks
  | shortImage
  | unsupportedMapper
  | otherCartridge
deriving DecidableEq, Repr

/-- The host's side: pending calls, oldest first, and the outputs (64_frame_sync.md R575, R576; log 11, log 33). -/
structure HostSide where
  calls : List HostCall
  screen : List (Nat × List Byte)
  audio : List (BitVec 16)
  saved : Option Snapshot
  status : LoadStatus
deriving DecidableEq, Repr

/-- The machine's state. `draws`, `undocPolicy` and `fiqRestart` are the model's own fields (log 5, log 1, log 36). -/
structure State where
  cpu : Cpu
  run : Run
  pages : Vector Page 16
  mem : Mems
  ppu : Ppu
  apu : Apu
  cart : Cart
  mmc1 : Mmc1
  mmc3 : Mmc3
  orch : Orch
  fiq : Fiq
  pads : Pads
  host : HostSide
  draws : Nat
  undocPolicy : UndocPolicy
  fiqRestart : FiqRestart
deriving DecidableEq, Repr

/-- Why the machine stops with a fault. No instruction faults (60_exceptions.md R356). -/
inductive Fault where
  /-- Raised by `step` when a host call other than `insert` is pending and no cartridge is attached: the spec does not
  allow the call (64_frame_sync.md R581, 93 U24). Safe: the model stops where the spec gives no behaviour. -/
  | noCartridge
deriving DecidableEq, Repr

/-- Why an instruction is refused. -/
inductive Refusal where
  /-- Raised by `exec` for an instruction of the named mnemonic that has no meaning yet. Safe. No arm raises it. -/
  | notModelled (mnemonic : String)
deriving DecidableEq, Repr

/-- The outcome of a step of this machine. -/
abbrev Result := Host.Outcome State Fault Refusal

/-- The flags at reset: I = 1 (R35); the others are draws, here 0 (log 3). -/
def Flags.reset : Flags := ⟨false, false, false, true, false, false⟩

/-- A rectangle channel after reset (62_apu.md R478). -/
def Rect.reset : Rect := ⟨0, 0, 0, 0, 0⟩

/-- The APU after reset (62_apu.md R478). -/
def Apu.reset : Apu where
  rect0 := Rect.reset
  rect1 := Rect.reset
  tri := ⟨0, 0, 0, 0, 0, 0⟩
  noise := ⟨0, 0, 0, 0⟩
  dmc := ⟨0, 0, 0, 0, 0, 0, false, 0, [], Config.dmcPhase⟩
  enable := 0
  synth := Config.synthInit
  clock := 0

/-- MMC1 after reset (R68). -/
def Mmc1.reset : Mmc1 := ⟨0, 0, 0x0C, 0, 0, 0⟩

/-- MMC3 after reset (R69). -/
def Mmc3.reset : Mmc3 := ⟨0, ⟨#[0, 0, 0, 0, 0, 0, 0, 1], rfl⟩, 0, 0, false⟩

/-- The blank cartridge of `State.reset` (log 2): mapper 0, one 16 KB PRG bank, CHR-RAM, horizontal mirroring. -/
def Cart.blank : Cart := ⟨true, 0, 1, 0, false, false, false, false⟩

/-- The CPU page table after insert of `Cart.blank` (R45, 63_mapper.md R506, R511). Base 0 of entries 0 and 1: DESIGN CHOICE (log 34). -/
def blankPages : Vector Page 16 :=
  ⟨#[.mapped .ram 0, .mapped .ram 0, .dead, .dead, .dead, .dead, .mapped .sram 0, .mapped .sram 4096,
     .mapped .prg 0, .mapped .prg 4096, .mapped .prg 8192, .mapped .prg 12288,
     .mapped .prg 0, .mapped .prg 4096, .mapped .prg 8192, .mapped .prg 12288], rfl⟩

/-- The PPU page table after insert of `Cart.blank`: CHR bank 0, horizontal mirroring (R52, 63_mapper.md R506). -/
def blankPpuPages : Vector PpuPage 16 :=
  ⟨#[⟨.chr, 0⟩, ⟨.chr, 1024⟩, ⟨.chr, 2048⟩, ⟨.chr, 3072⟩, ⟨.chr, 4096⟩, ⟨.chr, 5120⟩, ⟨.chr, 6144⟩, ⟨.chr, 7168⟩,
     ⟨.nt, 0⟩, ⟨.nt, 0⟩, ⟨.nt, 1024⟩, ⟨.nt, 1024⟩, ⟨.nt, 0⟩, ⟨.nt, 0⟩, ⟨.nt, 1024⟩, ⟨.nt, 1024⟩], rfl⟩

/-- The machine right after a hard reset (70_reset_and_hazards.md R593) with the blank cartridge of log 2 attached. -/
def State.reset : State where
  cpu := { a := 0, x := 0, y := 0, sp := 0, pc := 0, f := Flags.reset }
  run := { cycles := 0, remaining := 0, burn := Config.resetCycles, intPending := false, jammed := false, refused := false }
  pages := blankPages
  mem := { ram := [], sram := [], prg := [], chr := [], nt := [], oam := [], pal := [] }
  ppu := { ctrl0 := 0, ctrl1 := 0, vblank := false, overflow := false, oamaddr := 0, v := 0, t := 0, fineX := 0, w := false,
           rdbuf := 0, strikeFlag := false, strikeCycle := 0, vramAccessible := false, pages := blankPpuPages }
  apu := Apu.reset
  cart := Cart.blank
  mmc1 := Mmc1.reset
  mmc3 := Mmc3.reset
  orch := { scanline := resetScanline, acc := 0, inVblank := false, phase := .idle, draw := false }
  fiq := { cycles := (fiqPeriod : Int), state := 0, occurred := false, restarted := false }
  pads := { index0 := 0, index1 := 0 }
  host := { calls := [], screen := [], audio := [], saved := none, status := .none }
  draws := 0
  undocPolicy := initialUndocPolicy
  fiqRestart := initialFiqRestart

end Sys2Proof.Machine
end

