-- ==== Sys2Proof/Machine/Ppu.lean ====
section
/-! DEFINITION. The PPU's address space and CPU-visible registers (61_ppu.md R400-R424), and `draw()` (00_scope.md R11). The
$4014 OAM DMA reads the CPU bus and stands in Machine/Bus.lean; the renderer is Machine/Render.lean. -/

namespace Sys2Proof.Machine

/-- `draw()`: the next free byte (R11; log 5). -/
def takeDraw (s : State) : Byte × State := (Config.draw s.draws, { s with draws := s.draws + 1 })

/-- "Rendering enabled": ctrl1[3] | ctrl1[4] (10_state.md R55). -/
def renderingEnabled (s : State) : Bool := s.ppu.ctrl1.getLsbD 3 || s.ppu.ctrl1.getLsbD 4

/-! ### The PPU's address space -/

/-- `PalIndex(a)` (R402, D50). -/
def palIndex (a : PpuAddr) : Nat :=
  let i := a.toNat % 32
  if i % 4 = 0 then i % 16 else i

/-- `PpuRead(a)` (R402). -/
def ppuRead (a : PpuAddr) (s : State) : Byte :=
  if 0x3F00 ≤ a.toNat then s.mem.pal.read (palIndex a)
  else
    let p := s.ppu.pages.get (ppuPageOf a)
    match p.region with
    | .chr => s.mem.chr.read (p.base + ppuPageOffset a)
    | .nt => s.mem.nt.read (p.base + ppuPageOffset a)

/-- `PpuWrite(a, d)` (R402): the palette keeps 6 bits, and a write to CHR-ROM is discarded. -/
def ppuWrite (a : PpuAddr) (d : Byte) (s : State) : State :=
  if 0x3F00 ≤ a.toNat then { s with mem := { s.mem with pal := s.mem.pal.write (palIndex a) (d &&& 0x3F) } }
  else
    let p := s.ppu.pages.get (ppuPageOf a)
    match p.region with
    | .chr =>
      if s.cart.chrBanks = 0 then { s with mem := { s.mem with chr := s.mem.chr.write (p.base + ppuPageOffset a) d } }
      else s
    | .nt => { s with mem := { s.mem with nt := s.mem.nt.write (p.base + ppuPageOffset a) d } }

/-! ### Register reads -/

/-- `StrikeVisible()`, the lazy comparison with the live cycle counter (R427). -/
def strikeVisible (s : State) : Bool := s.ppu.strikeFlag && decide (s.ppu.strikeCycle ≤ s.run.cycles)

/-- The three status flags in bits 7, 6, 5 (R413). -/
def statusBits (s : State) : Byte :=
  bitAt s.ppu.vblank 7 ||| bitAt (strikeVisible s) 6 ||| bitAt s.ppu.overflow 5

/-- Read of $2002 (R413): bits 4:0 are draws; it clears vblank and w. -/
def readStatus (s : State) : Byte × State :=
  let d := takeDraw s
  (statusBits s ||| (d.1 &&& 0x1F), { d.2 with ppu := { s.ppu with vblank := false, w := false } })

/-- Read of $2004 (R416). -/
def readOamData (s : State) : Byte × State := (s.mem.oam.read s.ppu.oamaddr.toNat, s)

/-- `v[13:0]`, the PPU address of a $2007 access. -/
def vramAddr (s : State) : PpuAddr := s.ppu.v.extractLsb' 0 14

/-- `v` after a $2007 access: plus 32 or 1 by ctrl0[2], modulo 2^15 (R418, D24). -/
def vramNext (s : State) : BitVec 15 := s.ppu.v + (if s.ppu.ctrl0.getLsbD 2 then 32 else 1)

/-- Read of $2007, buffered below $3F00 (R418). `LogIfInaccessible()` (R436) changes no state. -/
def readVramData (s : State) : Byte × State :=
  let a := vramAddr s
  if a.toNat < 0x3F00 then
    (s.ppu.rdbuf, { s with ppu := { s.ppu with rdbuf := ppuRead a s, v := vramNext s } })
  else (ppuRead a s, { s with ppu := { s.ppu with rdbuf := ppuRead (a &&& 0x2FFF) s, v := vramNext s } })

/-- PPU register read, `r = addr & 7` (R410, R411). -/
def ppuRegRead (a : Addr) (s : State) : Byte × State :=
  match a.toNat % 8 with
  | 2 => readStatus s
  | 4 => readOamData s
  | 7 => readVramData s
  | _ => takeDraw s

/-! ### Register writes -/

/-- Write of $2000 (R414): no NMI is raised here (D30). -/
def writeCtrl0 (d : Byte) (s : State) : State :=
  { s with ppu := { s.ppu with ctrl0 := d, t := putField s.ppu.t 10 2 (d.toNat % 4) } }

/-- Write of $2001 (R415). -/
def writeCtrl1 (d : Byte) (s : State) : State := { s with ppu := { s.ppu with ctrl1 := d } }

/-- Write of $2003 (R416). -/
def writeOamAddr (d : Byte) (s : State) : State := { s with ppu := { s.ppu with oamaddr := d } }

/-- Write of $2004 (R417). -/
def writeOamData (d : Byte) (s : State) : State :=
  { s with mem := { s.mem with oam := s.mem.oam.write s.ppu.oamaddr.toNat d },
           ppu := { s.ppu with oamaddr := s.ppu.oamaddr + 1 } }

/-- Write of $2005 (R420). -/
def writeScroll (d : Byte) (s : State) : State :=
  if s.ppu.w then
    { s with ppu := { s.ppu with t := putField (putField s.ppu.t 5 5 (d.toNat / 8)) 12 3 (d.toNat % 8), w := false } }
  else
    { s with ppu := { s.ppu with t := putField s.ppu.t 0 5 (d.toNat / 8), fineX := d.extractLsb' 0 3, w := true } }

/-- Write of $2006 (R422). -/
def writeVramAddr (d : Byte) (s : State) : State :=
  if s.ppu.w then
    let t := putField s.ppu.t 0 8 d.toNat
    { s with ppu := { s.ppu with t := t, v := t, w := false } }
  else { s with ppu := { s.ppu with t := putField s.ppu.t 8 7 (d.toNat % 64), w := true } }

/-- Write of $2007 (R419). `LogIfInaccessible()` (R436) changes no state. -/
def writeVramData (d : Byte) (s : State) : State :=
  let s' := ppuWrite (vramAddr s) d s
  { s' with ppu := { s.ppu with v := vramNext s } }

/-- PPU register write, `r = addr & 7` (R412). -/
def ppuRegWrite (a : Addr) (d : Byte) (s : State) : State :=
  match a.toNat % 8 with
  | 0 => writeCtrl0 d s
  | 1 => writeCtrl1 d s
  | 3 => writeOamAddr d s
  | 4 => writeOamData d s
  | 5 => writeScroll d s
  | 6 => writeVramAddr d s
  | 7 => writeVramData d s
  | _ => s

/-- `ppu_reset()` (R445): the registers are 0; `rdbuf`, the memories and the page table stay. -/
def ppuReset (s : State) : State :=
  { s with ppu := { s.ppu with
      ctrl0 := 0, ctrl1 := 0, vblank := false, overflow := false, oamaddr := 0, v := 0, t := 0, fineX := 0, w := false,
      strikeFlag := false, vramAccessible := false } }

end Sys2Proof.Machine
end

