-- ==== Sys2Proof/Machine/Apu.lean ====
section
/-! DEFINITION. The APU's CPU-visible registers (62_apu.md R460-R467, R477), the FIQ state write (64_frame_sync.md R560) and the
joypads (R571, R572). The mix call is Machine/Audio.lean. -/

namespace Sys2Proof.Machine

/-- `LENGTH_TABLE[d >> 3]` (R462, R463). -/
def lengthLoad (d : Byte) : Nat := lengthTable.getD (d.toNat / 8) 0

/-- `length` after a write of register 3 of a channel: loaded only while the channel is enabled (R462). -/
def loadedLength (enabled : Bool) (d : Byte) (old : Nat) : Nat := if enabled then lengthLoad d else old

/-- Write register `k` of a rectangle channel (R462). -/
def Rect.write (c : Rect) (enabled : Bool) (k : Nat) (d : Byte) : Rect :=
  match k with
  | 0 => { c with reg0 := d }
  | 1 => { c with reg1 := d }
  | 2 => { c with reg2 := d }
  | _ => { c with reg3 := d, length := loadedLength enabled d c.length }

/-- Write register `k` of the triangle (R462, R470); register 1 does not exist (R461). -/
def Triangle.write (c : Triangle) (enabled : Bool) (k : Nat) (d : Byte) : Triangle :=
  match k with
  | 0 => { c with reg0 := d, delay := triLatency }
  | 1 => c
  | 2 => { c with reg2 := d }
  | _ => { c with reg3 := d, length := loadedLength enabled d c.length, linear := c.reg0.toNat % 128, delay := triLatency }

/-- Write register `k` of the noise channel (R462); register 1 does not exist (R461). -/
def Noise.write (c : Noise) (enabled : Bool) (k : Nat) (d : Byte) : Noise :=
  match k with
  | 0 => { c with reg0 := d }
  | 1 => c
  | 2 => { c with reg2 := d }
  | _ => { c with reg3 := d, length := loadedLength enabled d c.length }

/-- Write register `k` of the DMC (R462, R477). -/
def Dmc.write (c : Dmc) (k : Nat) (d : Byte) : Dmc :=
  match k with
  | 0 => { c with reg0 := d }
  | 1 => { c with reg1 := d, level := d.extractLsb' 0 7 }
  | 2 => { c with reg2 := d }
  | _ => { c with reg3 := d }

/-- Write of $4000-$4013 (R462): the channel and register index are `a[4:2]` and `a[1:0]` (R460). -/
def apuRegWrite (a : Addr) (d : Byte) (s : State) : State :=
  let k := a.toNat % 4
  let en := s.apu.enable
  match a.toNat % 32 / 4 with
  | 0 => { s with apu := { s.apu with rect0 := s.apu.rect0.write (en.getLsbD 0) k d } }
  | 1 => { s with apu := { s.apu with rect1 := s.apu.rect1.write (en.getLsbD 1) k d } }
  | 2 => { s with apu := { s.apu with tri := s.apu.tri.write (en.getLsbD 2) k d } }
  | 3 => { s with apu := { s.apu with noise := s.apu.noise.write (en.getLsbD 3) k d } }
  | _ => { s with apu := { s.apu with dmc := s.apu.dmc.write k d } }

/-- The start address of the DMC sample, `$C000 + 64 * reg2` (R466). -/
def Dmc.startAddr (c : Dmc) : Addr := 0xC000 + BitVec.ofNat 16 (64 * c.reg2.toNat)

/-- The length in bytes of the DMC sample, `16 * reg3 + 1` (R466). -/
def Dmc.startLength (c : Dmc) : Nat := 16 * c.reg3.toNat + 1

/-- Start the DMC sample from its beginning (R466, R476). -/
def Dmc.restart (c : Dmc) : Dmc := { c with addr := c.startAddr, remaining := c.startLength }

/-- The DMC half of a $4015 write (R466). -/
def Dmc.enableWrite (c : Dmc) (on : Bool) : Dmc :=
  let c' := if on then (if c.remaining = 0 then c.restart else c) else { c with remaining := 0 }
  { c' with irq := false }

/-- `length` after a $4015 write: cleared with the channel's bit (R466). -/
def keptLength (on : Bool) (old : Nat) : Nat := if on then old else 0

/-- Write of $4015 (R466). -/
def writeApuEnable (d : Byte) (s : State) : State :=
  { s with apu := { s.apu with
      enable := d.extractLsb' 0 5
      rect0 := { s.apu.rect0 with length := keptLength (d.getLsbD 0) s.apu.rect0.length }
      rect1 := { s.apu.rect1 with length := keptLength (d.getLsbD 1) s.apu.rect1.length }
      tri := { s.apu.tri with length := keptLength (d.getLsbD 2) s.apu.tri.length }
      noise := { s.apu.noise with length := keptLength (d.getLsbD 3) s.apu.noise.length }
      dmc := s.apu.dmc.enableWrite (d.getLsbD 4) } }

/-- The bits of $4015 but bit 5 (R467). -/
def apuStatusBits (s : State) : Byte :=
  bitAt s.apu.dmc.irq 7 ||| bitAt s.fiq.occurred 6 ||| bitAt (decide (0 < s.apu.dmc.remaining)) 4 |||
  bitAt (decide (0 < s.apu.noise.length)) 3 ||| bitAt (decide (0 < s.apu.tri.length)) 2 |||
  bitAt (decide (0 < s.apu.rect1.length)) 1 ||| bitAt (decide (0 < s.apu.rect0.length)) 0

/-- Read of $4000-$4015 (R467): bit 5 of $4015 is a draw, and the read clears `fiq_occurred`; the others are draws. -/
def apuRead (a : Addr) (s : State) : Byte × State :=
  let d := takeDraw s
  if a.toNat = 0x4015 then
    (apuStatusBits s ||| (d.1 &&& 0x20), { d.2 with fiq := { s.fiq with occurred := false } })
  else d

/-- Write of $4017, the FIQ state (64_frame_sync.md R560). The mark is the model's, for the end of the slice
(70_reset_and_hazards.md R612; `settleFiqRestart`; log 36). -/
def writeFiqState (d : Byte) (s : State) : State :=
  { s with fiq := { cycles := (fiqPeriod : Int), state := d,
                    occurred := if d.getLsbD 6 then false else s.fiq.occurred, restarted := true } }

/-- The read counter of pad `p`. -/
def Pads.index (q : Pads) (p : Nat) : Nat := if p = 0 then q.index0 else q.index1

/-- Advance the read counter of pad `p`. -/
def Pads.advance (q : Pads) (p : Nat) : Pads :=
  if p = 0 then { q with index0 := q.index0 + 1 } else { q with index1 := q.index1 + 1 }

/-- Read of $4016 or $4017 (64_frame_sync.md R571): bit 0 is button `pad_index` for 8 reads and then a draw; bits 7:1 are
draws (one free byte, log 23). -/
def padRead (p : Nat) (s : State) : Byte × State :=
  let d := takeDraw s
  if s.pads.index p < 8 then
    (bitAt (Config.inputOracle p (s.pads.index p) s.draws) 0 ||| (d.1 &&& 0xFE), { d.2 with pads := s.pads.advance p })
  else d

/-- Write of $4016, the strobe (64_frame_sync.md R572). -/
def writePadStrobe (s : State) : State := { s with pads := { index0 := 0, index1 := 0 } }

/-- `apu_reset()` (R478). -/
def apuReset (s : State) : State := { s with apu := Apu.reset }

end Sys2Proof.Machine
end

