-- ==== Sys2Proof/Machine/Mapper.lean ====
section
/-! DEFINITION. The mapper framework's banking primitives and the register writes of mappers 1 and 4 (63_mapper.md). The hblank
callback of mapper 4 calls `irq()` and stands in Machine/Frame.lean. -/

namespace Sys2Proof.Machine

/-- A requested bank: an index, or the sentinel `LAST_BANK`, distinct from every index (R503, D40). -/
inductive Bank where
  | index (i : Nat)
  | last
deriving DecidableEq, Repr

/-- `PRG_BYTES` (R502). -/
def Cart.prgBytes (c : Cart) : Nat := 16384 * c.prgBanks

/-- Is CHR a RAM (R502)? -/
def Cart.chrIsRam (c : Cart) : Bool := c.chrBanks = 0

/-- `CHR_BYTES` (R502). -/
def Cart.chrBytes (c : Cart) : Nat := if c.chrBanks = 0 then 8192 else 8192 * c.chrBanks

/-- The reduction of a requested bank modulo the bank count `max(1, total / size)` (R503, R504). -/
def Bank.resolve (b : Bank) (total size : Nat) : Nat :=
  let n := max 1 (total / size)
  match b with
  | .index i => i % n
  | .last => n - 1

/-- Write the entries `first + j`, `j < count`, of the CPU page table (R503). -/
def setPages (pages : Vector Page 16) (first : Nat) (entry : Nat → Page) : Nat → Vector Page 16
  | 0 => pages
  | j + 1 => (setPages pages first entry j).setIfInBounds (first + j) (entry j)

/-- Write the entries `first + j`, `j < count`, of the PPU page table (R504). -/
def setPpuPages (pages : Vector PpuPage 16) (first : Nat) (entry : Nat → PpuPage) : Nat → Vector PpuPage 16
  | 0 => pages
  | j + 1 => (setPpuPages pages first entry j).setIfInBounds (first + j) (entry j)

/-- The page-table entry `bank_prg` writes for its `j`-th 4 KB window (R503). -/
def prgEntry (total size : Nat) (b : Bank) (j : Nat) : Page :=
  .mapped .prg ((b.resolve total size * size + 4096 * j) % total)

/-- `bank_prg(size_kb, cpu_address, bank_index)` (R503). -/
def bankPrg (sizeKb cpuAddress : Nat) (b : Bank) (s : State) : State :=
  { s with pages := setPages s.pages (cpuAddress / 4096) (prgEntry s.cart.prgBytes (1024 * sizeKb) b) (sizeKb / 4) }

/-- The PPU page `bank_chr` writes for its `j`-th 1 KB window (R504). -/
def chrEntry (total size : Nat) (b : Bank) (j : Nat) : PpuPage :=
  ⟨.chr, (b.resolve total size * size + 1024 * j) % total⟩

/-- `bank_chr(size_kb, ppu_address, bank_index)` (R504). -/
def bankChr (sizeKb ppuAddress : Nat) (b : Bank) (s : State) : State :=
  { s with ppu := { s.ppu with
      pages := setPpuPages s.ppu.pages (ppuAddress / 1024) (chrEntry s.cart.chrBytes (1024 * sizeKb) b) sizeKb } }

/-- The four physical nametable pages, in the order of the logical quadrants (R505). -/
structure Mirror where
  nt0 : Fin 4
  nt1 : Fin 4
  nt2 : Fin 4
  nt3 : Fin 4
deriving DecidableEq, Repr

/-- The page of quadrant `k` (R505). -/
def Mirror.page (m : Mirror) (k : Nat) : Nat :=
  match k with
  | 0 => m.nt0
  | 1 => m.nt1
  | 2 => m.nt2
  | _ => m.nt3

/-- R505's named layouts. -/
def Mirror.horizontal : Mirror := ⟨0, 0, 1, 1⟩
def Mirror.vertical : Mirror := ⟨0, 1, 0, 1⟩
def Mirror.singleLow : Mirror := ⟨0, 0, 0, 0⟩
def Mirror.singleHigh : Mirror := ⟨1, 1, 1, 1⟩
def Mirror.fourScreen : Mirror := ⟨0, 1, 2, 3⟩

/-- The nametable page of quadrant `k` under a layout. -/
def ntEntry (m : Mirror) (k : Nat) : PpuPage := ⟨.nt, 1024 * m.page k⟩

/-- `ppu_mirror(nt0, nt1, nt2, nt3)`: entries 8-11 and, equal to them, 12-15 (R505). -/
def ppuMirror (m : Mirror) (s : State) : State :=
  { s with ppu := { s.ppu with pages := setPpuPages (setPpuPages s.ppu.pages 8 (ntEntry m) 4) 12 (ntEntry m) 4 } }

/-- The header's mirroring (R506 step 3). -/
def Cart.mirror (c : Cart) : Mirror :=
  if c.fourScreen then .fourScreen else if c.vertical then .vertical else .horizontal

/-! ### Mapper 1 (MMC1) -/

/-- MMC1's mirroring field, reg[0][1:0] (R514). -/
def Mmc1.mirror (m : Mmc1) : Mirror :=
  match m.reg0.toNat % 4 with
  | 0 => .singleLow
  | 1 => .singleHigh
  | 2 => .vertical
  | _ => .horizontal

/-- The PRG half of MMC1 `Apply()`, by reg[0][3:2] (R514). -/
def mmc1ApplyPrg (s : State) : State :=
  match s.mmc1.reg0.toNat / 4 % 4 with
  | 2 => bankPrg 16 0xC000 (.index (s.mmc1.reg3.toNat % 16)) (bankPrg 16 0x8000 (.index 0) s)
  | 3 => bankPrg 16 0xC000 (.index 0x0F) (bankPrg 16 0x8000 (.index (s.mmc1.reg3.toNat % 16)) s)
  | _ => bankPrg 32 0x8000 (.index (s.mmc1.reg3.toNat / 2 % 8)) s

/-- The CHR half of MMC1 `Apply()`, by reg[0][4] (R514). -/
def mmc1ApplyChr (s : State) : State :=
  if s.mmc1.reg0.getLsbD 4 then
    bankChr 4 0x1000 (.index s.mmc1.reg2.toNat) (bankChr 4 0x0000 (.index s.mmc1.reg1.toNat) s)
  else bankChr 8 0x0000 (.index (s.mmc1.reg1.toNat / 2)) s

/-- MMC1 `Apply()` (R514). -/
def mmc1Apply (s : State) : State := mmc1ApplyChr (mmc1ApplyPrg (ppuMirror s.mmc1.mirror s))

/-- MMC1 `init()` (R515): it does not touch mirroring. -/
def mmc1Init (s : State) : State :=
  bankChr 8 0x0000 (.index 0) (bankPrg 16 0xC000 (.index 0x0F) (bankPrg 16 0x8000 (.index 0) s))

/-- Load the MMC1 register that bits 14:13 of the address select (R513). -/
def Mmc1.load (m : Mmc1) (a : Addr) (x : BitVec 5) : Mmc1 :=
  match a.toNat / 8192 % 4 with
  | 0 => { m with reg0 := x }
  | 1 => { m with reg1 := x }
  | 2 => { m with reg2 := x }
  | _ => { m with reg3 := x }

/-- The MMC1 registers after a write, and whether `Apply()` follows (R513). -/
def Mmc1.serialWrite (m : Mmc1) (a : Addr) (d : Byte) : Mmc1 × Bool :=
  if d.getLsbD 7 then ({ m with shift := 0, bitcount := 0, reg0 := m.reg0 ||| 0x0C }, true)
  else
    let sh := m.shift ||| ((if d.getLsbD 0 then (1 : BitVec 5) else 0) <<< m.bitcount)
    if m.bitcount + 1 = 5 then ({ m.load a sh with shift := 0, bitcount := 0 }, true)
    else ({ m with shift := sh, bitcount := m.bitcount + 1 }, false)

/-- `mmc1_write(a, d)` (R513). -/
def mmc1Write (a : Addr) (d : Byte) (s : State) : State :=
  let r := s.mmc1.serialWrite a d
  if r.2 then mmc1Apply { s with mmc1 := r.1 } else { s with mmc1 := r.1 }

/-! ### Mapper 4 (MMC3) -/

/-- The number of 8 KB PRG banks, `n8` (R524). -/
def Cart.prgBanks8 (c : Cart) : Nat := max 1 (c.prgBytes / 8192)

/-- Bank register `k` of MMC3 as a number. -/
def Mmc3.bankNat (m : Mmc3) (k : Fin 8) : Nat := (m.bank.get k).toNat

/-- The PRG half of MMC3 `Apply()` (R524). -/
def mmc3ApplyPrg (s : State) : State :=
  let r6 : Bank := .index (s.mmc3.bankNat 6)
  let r7 : Bank := .index (s.mmc3.bankNat 7)
  let fixed : Bank := .index (s.cart.prgBanks8 - 2)
  if s.mmc3.command.getLsbD 6 then
    bankPrg 8 0xE000 .last (bankPrg 8 0xC000 r6 (bankPrg 8 0xA000 r7 (bankPrg 8 0x8000 fixed s)))
  else bankPrg 8 0xE000 .last (bankPrg 8 0xC000 fixed (bankPrg 8 0xA000 r7 (bankPrg 8 0x8000 r6 s)))

/-- The CHR half of MMC3 `Apply()` (R524): `c` is the 2 KB banks' half, `d` the 1 KB banks' half. -/
def mmc3ApplyChr (s : State) : State :=
  let c := if s.mmc3.command.getLsbD 7 then 0x1000 else 0x0000
  let d := if s.mmc3.command.getLsbD 7 then 0x0000 else 0x1000
  let b : Fin 8 → Nat := s.mmc3.bankNat
  let s := bankChr 1 (c + 0x0400) (.index (b 0 ||| 1)) (bankChr 1 (c + 0x0000) (.index (b 0 &&& 0xFE)) s)
  let s := bankChr 1 (c + 0x0C00) (.index (b 1 ||| 1)) (bankChr 1 (c + 0x0800) (.index (b 1 &&& 0xFE)) s)
  let s := bankChr 1 (d + 0x0400) (.index (b 3)) (bankChr 1 (d + 0x0000) (.index (b 2)) s)
  bankChr 1 (d + 0x0C00) (.index (b 5)) (bankChr 1 (d + 0x0800) (.index (b 4)) s)

/-- MMC3 `Apply()` (R524). -/
def mmc3Apply (s : State) : State := mmc3ApplyChr (mmc3ApplyPrg s)

/-- `mmc3_write(a, d)`, decoded by `a & $E001` (R521-R531). -/
def mmc3Write (a : Addr) (d : Byte) (s : State) : State :=
  match a.toNat / 8192 % 4, a.getLsbD 0 with
  | 0, false => mmc3Apply { s with mmc3 := { s.mmc3 with command := d } }
  | 0, true =>
    let k := s.mmc3.command.toNat % 8
    mmc3Apply { s with mmc3 := { s.mmc3 with bank := s.mmc3.bank.setIfInBounds k d } }
  | 1, false =>
    if s.cart.fourScreen then s
    else ppuMirror (if d.getLsbD 0 then .horizontal else .vertical) s
  | 1, true => s
  | 2, false => { s with mmc3 := { s.mmc3 with irqLatch := d } }
  | 2, true => { s with mmc3 := { s.mmc3 with irqCounter := (s.mmc3.irqLatch.toNat : Int) } }
  | _, false => { s with mmc3 := { s.mmc3 with irqEnabled := false } }
  | _, true => { s with mmc3 := { s.mmc3 with irqEnabled := true } }

/-! ### Initial mapping -/

/-- The generic default mapping and the header's mirroring (R506 steps 2 and 3). -/
def defaultMapping (s : State) : State :=
  ppuMirror s.cart.mirror
    (bankChr 8 0x0000 (.index 0) (bankPrg 16 0xC000 .last (bankPrg 16 0x8000 (.index 0) s)))

/-- The active mapper's `init()` (R511, R515, R520), its private state already initial. -/
def mapperInit (s : State) : State :=
  match s.cart.mapper with
  | 1 => mmc1Init s
  | 4 => mmc3Apply s
  | _ => s

/-- `mapper_reset()`, the mapping half of a soft reset (R507). -/
def mapperReset (s : State) : State :=
  mapperInit (defaultMapping { s with mmc1 := Mmc1.reset, mmc3 := Mmc3.reset })

/-- MMC1's save-state hook (R509). -/
def mmc1GetState (s : State) : Mmc1 := s.mmc1

/-- MMC1's load-state hook (R509): restore the private state and re-apply the mapping. -/
def mmc1SetState (m : Mmc1) (s : State) : State := mmc1Apply { s with mmc1 := m }

/-- MMC3's save-state hook (R509). -/
def mmc3GetState (s : State) : Mmc3 := s.mmc3

/-- MMC3's load-state hook (R509). -/
def mmc3SetState (m : Mmc3) (s : State) : State := mmc3Apply { s with mmc3 := m }

end Sys2Proof.Machine
end

