-- ==== Sys2Proof/Machine/Bus.lean ====
section
/-! DEFINITION. The CPU bus: the ordered handler tables and the two-tier decode `MemRead` and `MemWrite` (20_memory.md R131-R138),
OAM DMA (61_ppu.md R421), and the pure view `peek` of the bytes that are plain memory. -/

namespace Sys2Proof.Machine

/-! ### DMA cycles -/

/-- `burn(k)` (60_exceptions.md R352): without effect on a refused CPU (45_jam_undocumented.md R311). -/
def addBurn (k : Nat) (s : State) : State :=
  if s.run.refused then s else { s with run := { s.run with burn := s.run.burn + k } }

/-- `release()` (60_exceptions.md R353): without effect on a refused CPU (45_jam_undocumented.md R311). Outside a slice
`remaining` means nothing (log 24). -/
def release (s : State) : State :=
  if s.run.refused then s else { s with run := { s.run with remaining := 0 } }

/-! ### Handler tables -/

/-- The default read handlers (R136). The read tables of mappers 0, 1 and 4 are empty (63_mapper.md R511, R512, R521). -/
inductive ReadHandler where
  | ramMirror
  | ppuReg
  | apu
  | pad
deriving DecidableEq, Repr

/-- The default write handlers (R137) and those of mappers 1 and 4 (63_mapper.md R512, R521). -/
inductive WriteHandler where
  | ramMirror
  | ppuReg
  | apuReg
  | oamDma
  | apuEnable
  | padStrobe
  | fiqState
  | mmc1
  | mmc3
deriving DecidableEq, Repr

/-- A handler table: `(min, max, handler)` with inclusive bounds, in order (R135). -/
abbrev HandlerTable (h : Type) := List (Nat × Nat × h)

/-- The first entry whose range contains the address wins (R135). -/
def HandlerTable.lookup {h : Type} : HandlerTable h → Nat → Option h
  | [], _ => none
  | (lo, hi, x) :: rest, a => if lo ≤ a ∧ a ≤ hi then some x else HandlerTable.lookup rest a

/-- The read table (R135, R136). -/
def readTable : HandlerTable ReadHandler :=
  [(0x0800, 0x1FFF, .ramMirror), (0x2000, 0x3FFF, .ppuReg), (0x4000, 0x4015, .apu), (0x4016, 0x4017, .pad)]

/-- The default write handlers (R137). -/
def defaultWriteTable : HandlerTable WriteHandler :=
  [(0x0800, 0x1FFF, .ramMirror), (0x2000, 0x3FFF, .ppuReg), (0x4000, 0x4013, .apuReg), (0x4014, 0x4014, .oamDma),
   (0x4015, 0x4015, .apuEnable), (0x4016, 0x4016, .padStrobe), (0x4017, 0x4017, .fiqState)]

/-- The active mapper's write-intercept table (63_mapper.md R511, R512, R521). -/
def mapperWriteTable (mapper : Nat) : HandlerTable WriteHandler :=
  match mapper with
  | 1 => [(0x8000, 0xFFFF, .mmc1)]
  | 4 => [(0x8000, 0xFFFF, .mmc3)]
  | _ => []

/-- The write table: the defaults, then the mapper's (R135). -/
def writeTable (mapper : Nat) : HandlerTable WriteHandler := defaultWriteTable ++ mapperWriteTable mapper

/-! ### Reads -/

/-- The offset in CPU RAM of an address in $0000-$1FFF (R138). -/
def ramOffset (a : Addr) : Nat := a.toNat % 2048

/-- `PageRead(addr)` (R133). -/
def pageRead (a : Addr) (s : State) : Byte × State :=
  match s.pages.get (pageOf a) with
  | .mapped .ram base => (s.mem.ram.read (base + pageOffset a), s)
  | .mapped .sram base => (s.mem.sram.read (base + pageOffset a), s)
  | .mapped .prg base => (s.mem.prg.read (base + pageOffset a), s)
  | .dead => takeDraw s

/-- Run a read handler (R136). -/
def ReadHandler.run (h : ReadHandler) (a : Addr) (s : State) : Byte × State :=
  match h with
  | .ramMirror => (s.mem.ram.read (ramOffset a), s)
  | .ppuReg => ppuRegRead a s
  | .apu => apuRead a s
  | .pad => padRead (a.toNat - 0x4016) s

/-- `MemRead(addr, 1)` (R131). -/
def memRead (a : Addr) (s : State) : Byte × State :=
  if a.toNat < 0x0800 then (s.mem.ram.read a.toNat, s)
  else if 0x8000 ≤ a.toNat then pageRead a s
  else
    match readTable.lookup a.toNat with
    | some h => h.run a s
    | none => pageRead a s

/-- `Read16(addr)`: low byte first (R140, 00_scope.md R10). -/
def memRead16 (a : Addr) (s : State) : Addr × State :=
  let lo := memRead a s
  let hi := memRead (a + 1) lo.2
  (mkAddr hi.1 lo.1, hi.2)

/-! ### Writes -/

/-- `PageWrite(addr, v)` (R134): PRG-ROM and dead pages discard the write. -/
def pageWrite (a : Addr) (v : Byte) (s : State) : State :=
  match s.pages.get (pageOf a) with
  | .mapped .ram base => { s with mem := { s.mem with ram := s.mem.ram.write (base + pageOffset a) v } }
  | .mapped .sram base => { s with mem := { s.mem with sram := s.mem.sram.write (base + pageOffset a) v } }
  | .mapped .prg _ => s
  | .dead => s

/-- Copy the bytes `i, i+1, …` of page `d` into OAM from `oamaddr` on, each through the full read decode (61_ppu.md R421). -/
def oamDmaCopy (d : Byte) : (count : Nat) → (i : Nat) → State → State
  | 0, _, s => s
  | n + 1, i, s =>
    let r := memRead (mkAddr d (BitVec.ofNat 8 i)) s
    oamDmaCopy d n (i + 1)
      { r.2 with mem := { r.2.mem with
          oam := r.2.mem.oam.write (r.2.ppu.oamaddr + BitVec.ofNat 8 i).toNat r.1 } }

/-- Write of $4014, OAM DMA (61_ppu.md R421). -/
def writeOamDma (d : Byte) (s : State) : State := release (addBurn oamDmaCycles (oamDmaCopy d 256 0 s))

/-- Run a write handler (R137). -/
def WriteHandler.run (h : WriteHandler) (a : Addr) (v : Byte) (s : State) : State :=
  match h with
  | .ramMirror => { s with mem := { s.mem with ram := s.mem.ram.write (ramOffset a) v } }
  | .ppuReg => ppuRegWrite a v s
  | .apuReg => apuRegWrite a v s
  | .oamDma => writeOamDma v s
  | .apuEnable => writeApuEnable v s
  | .padStrobe => writePadStrobe s
  | .fiqState => writeFiqState v s
  | .mmc1 => mmc1Write a v s
  | .mmc3 => mmc3Write a v s

/-- `MemWrite(addr, 1, v)` (R132). -/
def memWrite (a : Addr) (v : Byte) (s : State) : State :=
  if a.toNat < 0x0800 then { s with mem := { s.mem with ram := s.mem.ram.write a.toNat v } }
  else
    match (writeTable s.cart.mapper).lookup a.toNat with
    | some h => h.run a v s
    | none => pageWrite a v s

/-! ### The pure view of plain memory -/

/-- Where the byte of a CPU address is kept: a cell of RAM, SRAM or PRG-ROM, a device register, or nowhere. -/
inductive Loc where
  | ram (k : Nat)
  | sram (k : Nat)
  | prg (k : Nat)
  | device
  | dead
deriving DecidableEq, Repr

/-- The location that a page-table entry gives an address (R133). -/
def pageLoc (a : Addr) (s : State) : Loc :=
  match s.pages.get (pageOf a) with
  | .mapped .ram base => .ram (base + pageOffset a)
  | .mapped .sram base => .sram (base + pageOffset a)
  | .mapped .prg base => .prg (base + pageOffset a)
  | .dead => .dead

/-- Where a read of an address goes (R131, R136, R142). -/
def locate (a : Addr) (s : State) : Loc :=
  if a.toNat < 0x2000 then .ram (ramOffset a)
  else if a.toNat < 0x4018 then .device
  else pageLoc a s

/-- The byte at a location, where it is kept in plain memory. -/
def Loc.byte (l : Loc) (m : Mems) : Option Byte :=
  match l with
  | .ram k => some (m.ram.read k)
  | .sram k => some (m.sram.read k)
  | .prg k => some (m.prg.read k)
  | .device => none
  | .dead => none

/-- The byte at a CPU address, without side effect, where it is plain memory. -/
def peek (a : Addr) (s : State) : Option Byte := (locate a s).byte s.mem

end Sys2Proof.Machine
end

