-- ==== Sys2Proof/Machine/Flags.lean ====
section
/-! DEFINITION. The flag computations (00_scope.md R9, 10_state.md R36, R37, 41_arith_logic.md R230-R234, 42_shift_rotate.md). Each
works on plain values: a result byte and the flags after it. -/

namespace Sys2Proof.Machine

/-- `setNZ(v)` (00_scope.md R9). -/
def Flags.setNZ (f : Flags) (v : Byte) : Flags := { f with n := v.getLsbD 7, z := decide (v = 0) }

/-- P as it is pushed, `{N, V, 1, B, D, I, Z, C}` (10_state.md R36). -/
def Flags.pushed (f : Flags) (b : Bool) : Byte :=
  bitAt f.n 7 ||| bitAt f.v 6 ||| 0x20 ||| bitAt b 4 ||| bitAt f.d 3 ||| bitAt f.i 2 ||| bitAt f.z 1 ||| bitAt f.c 0

/-- The flags from a pulled byte (10_state.md R37): bits 5 and 4 are discarded. -/
def Flags.pulled (p : Byte) : Flags where
  n := p.getLsbD 7
  v := p.getLsbD 6
  d := p.getLsbD 3
  i := p.getLsbD 2
  z := p.getLsbD 1
  c := p.getLsbD 0

/-- A carry as a number. -/
def carryNat (c : Bool) : Nat := if c then 1 else 0

/-- `AddBin(m)` (R230): A and the flags. -/
def addBin (a m : Byte) (f : Flags) : Byte × Flags :=
  let sum := a.toNat + m.toNat + carryNat f.c
  let r : Byte := BitVec.ofNat 8 sum
  (r, { f with v := (~~~(a ^^^ m) &&& (a ^^^ r)).getLsbD 7, c := decide (255 < sum) } |>.setNZ r)

/-- `SubBin(m)`, which is `AddBin(m ^ $FF)` (R232). -/
def subBin (a m : Byte) (f : Flags) : Byte × Flags := addBin a (m ^^^ 0xFF) f

/-- `AddDec(m)` (R231), unreachable with `DECIMAL_MODE = false` (D5). -/
def addDec (a m : Byte) (f : Flags) : Byte × Flags :=
  let lo0 := a.toNat % 16 + m.toNat % 16 + carryNat f.c
  let lo := if 9 < lo0 then lo0 + 6 else lo0
  let hi0 := a.toNat / 16 + m.toNat / 16 + (if 0x0F < lo then 1 else 0)
  let hiByte0 : Byte := BitVec.ofNat 8 (hi0 * 16)
  let hi := if 9 < hi0 then hi0 + 6 else hi0
  (BitVec.ofNat 8 (hi * 16 + lo % 16),
    { f with
      z := decide (BitVec.ofNat 8 (a.toNat + m.toNat + carryNat f.c) = (0 : Byte))
      n := hiByte0.getLsbD 7
      v := (~~~(a ^^^ m) &&& (a ^^^ hiByte0)).getLsbD 7
      c := decide (0x0F < hi) })

/-- `SubDec(m)` (R233), unreachable with `DECIMAL_MODE = false` (D5): the flags are those of `SubBin`. -/
def subDec (a m : Byte) (f : Flags) : Byte × Flags :=
  let lo0 : Int := (a.toNat % 16 : Nat) - (m.toNat % 16 : Nat) - (1 - (carryNat f.c : Int))
  let hi0 : Int := (a.toNat / 16 : Nat) - (m.toNat / 16 : Nat)
  let lo := if lo0 < 0 then lo0 - 6 else lo0
  let hi1 := if lo0 < 0 then hi0 - 1 else hi0
  let hi := if hi1 < 0 then hi1 - 6 else hi1
  (BitVec.ofInt 8 (hi * 16 + lo % 16), (subBin a m f).2)

/-- The addition of ADC and RRA (R235). -/
def adcOp (a m : Byte) (f : Flags) : Byte × Flags :=
  if decimalMode && f.d then addDec a m f else addBin a m f

/-- The subtraction of SBC and ISB (R236). -/
def sbcOp (a m : Byte) (f : Flags) : Byte × Flags :=
  if decimalMode && f.d then subDec a m f else subBin a m f

/-- `Compare(r, m)` (R234). -/
def compareOp (r m : Byte) (f : Flags) : Flags := { f with c := decide (m.toNat ≤ r.toNat) } |>.setNZ (r - m)

/-- BIT: Z from A & m, N and V from m (R243). -/
def bitOp (a m : Byte) (f : Flags) : Flags :=
  { f with z := decide (a &&& m = 0), n := m.getLsbD 7, v := m.getLsbD 6 }

/-- ASL (R260): the result and the flags. -/
def aslOp (t : Byte) (f : Flags) : Byte × Flags :=
  (t <<< 1, { f with c := t.getLsbD 7 } |>.setNZ (t <<< 1))

/-- LSR (R261). -/
def lsrOp (t : Byte) (f : Flags) : Byte × Flags :=
  (t >>> 1, { f with c := t.getLsbD 0 } |>.setNZ (t >>> 1))

/-- ROL (R262): C is read before it is written. -/
def rolOp (t : Byte) (f : Flags) : Byte × Flags :=
  let r := (t <<< 1) ||| bitAt f.c 0
  (r, { f with c := t.getLsbD 7 } |>.setNZ r)

/-- ROR (R263): C is read before it is written. -/
def rorOp (t : Byte) (f : Flags) : Byte × Flags :=
  let r := bitAt f.c 7 ||| (t >>> 1)
  (r, { f with c := t.getLsbD 0 } |>.setNZ r)

/-- INC (R244). -/
def incOp (t : Byte) (f : Flags) : Byte × Flags := (t + 1, f.setNZ (t + 1))

/-- DEC (R247). -/
def decOp (t : Byte) (f : Flags) : Byte × Flags := (t - 1, f.setNZ (t - 1))

end Sys2Proof.Machine
end

