-- ==== Sys2Proof/Machine/Ops.lean ====
section
/-! DEFINITION. The named operations over registers, memory and time that the instructions share (00_scope.md R9-R11), taking an
interrupt and returning from one (60_exceptions.md R359-R365, 43_control_transfer.md R282, R283). -/

namespace Sys2Proof.Machine

/-! ### Registers -/

def setA (v : Byte) (s : State) : State := { s with cpu := { s.cpu with a := v } }
def setX (v : Byte) (s : State) : State := { s with cpu := { s.cpu with x := v } }
def setY (v : Byte) (s : State) : State := { s with cpu := { s.cpu with y := v } }
def setSp (v : Byte) (s : State) : State := { s with cpu := { s.cpu with sp := v } }
def setPc (v : Addr) (s : State) : State := { s with cpu := { s.cpu with pc := v } }
def setFlags (f : Flags) (s : State) : State := { s with cpu := { s.cpu with f := f } }

/-- `setNZ(v)` on the machine's flags (00_scope.md R9). -/
def setNZ (v : Byte) (s : State) : State := setFlags (s.cpu.f.setNZ v) s

/-! ### Time -/

/-- `charge(k)` (10_state.md R41). -/
def charge (k : Nat) (s : State) : State :=
  { s with run := { s.run with cycles := s.run.cycles + k, remaining := s.run.remaining - k } }

/-- An instruction whose accesses are done ends: its cost is charged and the machine goes on (60_exceptions.md R355). -/
def finish (cost : Nat) (s : State) : Result := .next (charge cost s)

/-! ### Stack -/

/-- `Push(v)` (00_scope.md R10): the byte goes to `$0100 + S`, and S counts down modulo 256. -/
def push (v : Byte) (s : State) : State := setSp (s.cpu.sp - 1) (memWrite (stackAddr s.cpu.sp) v s)

/-- `Pull()` (00_scope.md R10): S counts up modulo 256, and the byte is read at `$0100 + S`. -/
def pull (s : State) : Byte × State :=
  let s' := setSp (s.cpu.sp + 1) s
  memRead (stackAddr s'.cpu.sp) s'

/-- Push a 16-bit value, high byte first (20_memory.md R140). -/
def push16 (v : Addr) (s : State) : State := push (loByte v) (push (hiByte v) s)

/-- Pull a 16-bit value, low byte first. -/
def pull16 (s : State) : Addr × State :=
  let lo := pull s
  let hi := pull lo.2
  (mkAddr hi.1 lo.1, hi.2)

/-! ### Interrupt entry and return -/

/-- The interrupt vectors (60_exceptions.md R358). -/
def nmiVector : Addr := 0xFFFA
def resetVector : Addr := 0xFFFC
def irqVector : Addr := 0xFFFE

/-- The entry that IRQ, NMI and BRK share: push pc and then P with the given B, set I, and load pc from the vector (R359; BRK:
43_control_transfer.md R282). -/
def enterInterrupt (b : Bool) (vector : Addr) (s : State) : State :=
  let s1 := push (s.cpu.f.pushed b) (push16 s.cpu.pc s)
  let s2 := setFlags { s1.cpu.f with i := true } s1
  let r := memRead16 vector s2
  setPc r.1 r.2

/-- `Interrupt(vector)`: the entry of IRQ and NMI, with B = 0 (R359). -/
def interrupt (vector : Addr) (s : State) : State := enterInterrupt false vector s

/-- `nmi()` (R360): never masked, but without effect on a jammed or refused CPU. -/
def nmi (s : State) : State :=
  if s.run.refused || s.run.jammed then s else addBurn intCycles (interrupt nmiVector s)

/-- `irq()` (R361): deferred while I = 1, and without effect on a jammed or refused CPU. -/
def irq (s : State) : State :=
  if s.run.refused || s.run.jammed then s
  else if s.cpu.f.i then { s with run := { s.run with intPending := true } }
  else addBurn intCycles (interrupt irqVector s)

/-- The return from an interrupt (43_control_transfer.md R283, 60_exceptions.md R365): pull P, then pc. -/
def returnFromInterrupt (s : State) : State :=
  let p := pull s
  let r := pull16 (setFlags (Flags.pulled p.1) p.2)
  setPc r.1 r.2

/-! ### Stops of the CPU -/

/-- R311: under `UNDOC_POLICY = refuse` the opcode fetched is refused; pc is left on it and the slice ends. -/
def refuseOpcode (s : State) : State :=
  { s with cpu := { s.cpu with pc := s.cpu.pc - 1 }, run := { s.run with refused := true, remaining := 0 } }

/-- R312: JAM leaves pc on its opcode, jams the CPU, charges `JAM_CYCLES` and ends the slice. -/
def jamCpu (s : State) : State :=
  { s with cpu := { s.cpu with pc := s.cpu.pc - 1 },
           run := { s.run with jammed := true, cycles := s.run.cycles + Config.jamCycles, remaining := 0 } }

end Sys2Proof.Machine
end

