-- ==== Sys2Proof/Machine/Audio.lean ====
section
/-! DEFINITION. The APU mix call (62_apu.md R464-R476). Sample values are `ApuSynth`'s, an open configuration function (D33; log 8);
the counters, the DMC fetches and the silence rules are the spec's. -/

namespace Sys2Proof.Machine

/-! ### Counters -/

/-- The steps of the length countdown that fall to output sample `k` (R464): one each `SAMPLE_RATE / 60` samples exactly, so 60 steps
in `SAMPLE_RATE` samples, at a free phase (log 8). -/
def lengthTicks (k : Nat) : Nat :=
  (60 * (k + 1) + Config.lengthPhase) / Config.sampleRate - (60 * k + Config.lengthPhase) / Config.sampleRate

/-- A length after sample `k`, `halted` being its halt bit (R464). -/
def countLength (k : Nat) (halted : Bool) (length : Nat) : Nat :=
  if halted then length else length - lengthTicks k

/-- The triangle's counters after sample `k` (R464, R470, R471). While `delay > 0` neither counts down (log 26); while reg0[7] = 1 the
length and the delay stand, and the linear counter reloads as `ApuSynth` says, whatever the delay is (R471). An armed linear counter falls
by at most one in a sample (log 8). -/
def Triangle.count (c : Triangle) (k : Nat) : Triangle :=
  let control := c.reg0.getLsbD 7
  let armed := decide (c.delay = 0)
  { c with
    length := if armed then countLength k control c.length else c.length
    linear := if control then Config.linearReload c.reg0 c.linear c.delay k
              else if armed && Config.linearTick k then c.linear - 1 else c.linear
    delay := if control then c.delay else c.delay - 1 }

/-- The counters of sample `k` (R474 step 1). -/
def countSample (k : Nat) (s : State) : State :=
  { s with apu := { s.apu with
      rect0 := { s.apu.rect0 with length := countLength k (s.apu.rect0.reg0.getLsbD 5) s.apu.rect0.length }
      rect1 := { s.apu.rect1 with length := countLength k (s.apu.rect1.reg0.getLsbD 5) s.apu.rect1.length }
      tri := s.apu.tri.count k
      noise := { s.apu.noise with length := countLength k (s.apu.noise.reg0.getLsbD 5) s.apu.noise.length } } }

/-! ### DMC -/

/-- The 8 bits of a sample byte, least significant first (R476). -/
def sampleBits (b : Byte) : List Bool := (List.range 8).map (fun k => b.getLsbD k)

/-- The DMC level after one bit: plus 2 if it is at most 125, minus 2 if it is at least 2 (R476). PRESUMED, from the NES family: a 1
adds and a 0 subtracts; R476 does not say which (log 35). -/
def stepLevel (level : BitVec 7) (bit : Bool) : BitVec 7 :=
  if bit then (if level.toNat ≤ 125 then level + 2 else level)
  else (if 2 ≤ level.toNat then level - 2 else level)

/-- The address of the next sample byte (R476). -/
def nextSampleAddr (a : Addr) : Addr := if a = 0xFFFF then 0x8000 else a + 1

/-- One DMC fetch (R476): read, burn 1, advance; at the end of the sample loop, or raise the DMC IRQ. -/
def dmcFetch (s : State) : State :=
  let r := memRead s.apu.dmc.addr s
  let d := r.2.apu.dmc
  let d1 := { d with addr := nextSampleAddr d.addr, remaining := d.remaining - 1, bits := d.bits ++ sampleBits r.1 }
  let s1 := addBurn 1 r.2
  if d1.remaining = 0 then
    if d.reg0.getLsbD 6 then { s1 with apu := { s1.apu with dmc := d1.restart } }
    else if d.reg0.getLsbD 7 then irq { s1 with apu := { s1.apu with dmc := { d1 with irq := true } } }
    else { s1 with apu := { s1.apu with dmc := d1 } }
  else { s1 with apu := { s1.apu with dmc := d1 } }

/-- At most `n` DMC fetches, while the channel is enabled and bytes remain (R476). -/
def dmcFetches : Nat → State → State
  | 0, s => s
  | n + 1, s => if s.apu.enable.getLsbD 4 && decide (0 < s.apu.dmc.remaining) then dmcFetches n (dmcFetch s) else s

/-- The DMC's period: CPU cycles per output bit (R469). -/
def Dmc.rate (c : Dmc) : Nat := dmcRates.getD (c.reg0.toNat % 16) 0

/-- A bit's time in the units of `timer` (R469). -/
def Dmc.bitTime (c : Dmc) : Nat := c.rate * clockDivider * Config.sampleRate

/-- The bit clock over one output sample, which lasts `MASTER_CLOCK` units of `timer`: the bits that come due move the level, and the
rest of the time stays (R469, R476; log 7). -/
def Dmc.outputBits (c : Dmc) : Dmc :=
  let time := masterClock + c.timer
  let n := time / c.bitTime
  { c with level := (c.bits.take n).foldl stepLevel c.level, bits := c.bits.drop n, timer := time % c.bitTime }

/-- The bits output before a sample (R476). -/
def dmcOutputBits (s : State) : State := { s with apu := { s.apu with dmc := s.apu.dmc.outputBits } }

/-- The DMC's part of sample `k` (R474 step 2, R476). -/
def dmcSample (k : Nat) (s : State) : State :=
  dmcOutputBits (dmcFetches (Config.dmcSchedule (s.apu.dmc.reg0.extractLsb' 0 4) Config.sampleRate k) s)

/-! ### Mixing -/

/-- The registers of a channel, as `ApuSynth.channel` takes them (R468). -/
def channelRegs (a : Apu) : Channel → List Byte
  | .rect0 => [a.rect0.reg0, a.rect0.reg1, a.rect0.reg2, a.rect0.reg3]
  | .rect1 => [a.rect1.reg0, a.rect1.reg1, a.rect1.reg2, a.rect1.reg3]
  | .triangle => [a.tri.reg0, a.tri.reg2, a.tri.reg3]
  | .noise => [a.noise.reg0, a.noise.reg2, a.noise.reg3]
  | .dmc => [a.dmc.reg0, a.dmc.reg1, a.dmc.reg2, a.dmc.reg3]

/-- A channel's position in the enable mask and in `synth` (10_state.md R65). -/
def channelIndex : Channel → Nat
  | .rect0 => 0
  | .rect1 => 1
  | .triangle => 2
  | .noise => 3
  | .dmc => 4

/-- Does a channel contribute (R465)? -/
def channelSounds (a : Apu) (c : Channel) : Bool :=
  a.enable.getLsbD (channelIndex c) &&
  match c with
  | .rect0 => decide (0 < a.rect0.length)
  | .rect1 => decide (0 < a.rect1.length)
  | .triangle => decide (0 < a.tri.length) && decide (0 < a.tri.linear)
  | .noise => decide (0 < a.noise.length)
  | .dmc => true

/-- The 11-bit timer of a channel's registers 2 and 3 (R469). -/
def timer11 (reg2 reg3 : Byte) : Nat := 256 * (reg3.toNat % 8) + reg2.toNat

/-- A channel's period in CPU cycles (R469): the rectangle's timer counts in 2 CPU cycles. -/
def channelPeriod (a : Apu) : Channel → Nat
  | .rect0 => 2 * timer11 a.rect0.reg2 a.rect0.reg3
  | .rect1 => 2 * timer11 a.rect1.reg2 a.rect1.reg3
  | .triangle => timer11 a.tri.reg2 a.tri.reg3
  | .noise => noisePeriods.getD (a.noise.reg2.toNat % 16) 0
  | .dmc => a.dmc.rate

/-- `ApuSynth.channel`'s answer for one sample of a channel (R468, R469). -/
def synthAnswer (a : Apu) (c : Channel) : Int × Nat :=
  Config.synthChannel c (channelRegs a c) (channelPeriod a c) (a.synth.getD (channelIndex c) 0)

/-- The contribution of a channel to a sample (R465): the DMC's is its level, a silent channel's is 0. -/
def contribution (a : Apu) (c : Channel) : Int :=
  if channelSounds a c then
    match c with
    | .dmc => (a.dmc.level.toNat : Int)
    | _ => (synthAnswer a c).1
  else 0

/-- All channels (R473). -/
def allChannels : List Channel := [.rect0, .rect1, .triangle, .noise, .dmc]

/-- The raw sum (R473); the extension channel of mappers 0, 1 and 4 is 0 (R472). -/
def rawSum (a : Apu) : Int := (allChannels.map (contribution a)).sum

/-- Clip to the 16-bit signed range (R473). -/
def clampSample (x : Int) : Int := if x < -32768 then -32768 else if 32767 < x then 32767 else x

/-- The output word of a clipped sample: signed 16-bit, or unsigned 8-bit `(s >> 8) + 128` (R473). -/
def outputSample (x : Int) : BitVec 16 :=
  if Config.sampleBits16 then BitVec.ofInt 16 x else (BitVec.ofInt 8 (x / 256 + 128)).setWidth 16

/-- Compute and write one sample (R474 step 3): the channels' and the filter's states advance, those of a silent channel and of the DMC
too (log 8). -/
def mixSample (s : State) : State :=
  let a := s.apu
  let f := Config.synthFilter (rawSum a) (a.synth.getD 5 0)
  { s with
    apu := { a with synth := allChannels.map (fun c => (synthAnswer a c).2) ++ [f.2], clock := a.clock + 1 }
    host := { s.host with audio := s.host.audio ++ [outputSample (clampSample f.1)] } }

/-- One output sample (R474), numbered by the samples generated since reset. -/
def generateSample (s : State) : State := mixSample (dmcSample s.apu.clock (countSample s.apu.clock s))

/-- `n` output samples in order (R474). -/
def generateSamples : Nat → State → State
  | 0, s => s
  | n + 1, s => generateSamples n (generateSample s)

/-- `apu_process(buffer, num_samples)` (R474): the host's buffer holds this call's samples. -/
def apuProcess (n : Nat) (s : State) : State := generateSamples n { s with host := { s.host with audio := [] } }

end Sys2Proof.Machine
end

