-- ==== Sys2Proof/Machine/Reset.lean ====
section
/-! DEFINITION. The reset procedures (70_reset_and_hazards.md R590-R592, R595). -/

namespace Sys2Proof.Machine

/-- `n` draws, in order. -/
def takeDraws : Nat → State → List Byte × State
  | 0, s => ([], s)
  | n + 1, s =>
    let d := takeDraw s
    let r := takeDraws n d.2
    (d.1 :: r.1, r.2)

/-- The flags after a reset: I = 1, the others the bits of a draw (R590, `RESET_FLAGS`; log 23). -/
def drawnFlags (b : Byte) : Flags :=
  { n := b.getLsbD 7, v := b.getLsbD 6, d := b.getLsbD 3, i := true, z := b.getLsbD 1, c := b.getLsbD 0 }

/-- `cpu_reset()` (R590): a refused CPU stays as it is (R595). -/
def cpuReset (s : State) : State :=
  if s.run.refused then s
  else
    let d := takeDraw s
    let s1 := setFlags (drawnFlags d.1) d.2
    let r := memRead16 resetVector { s1 with run := { s1.run with intPending := false, jammed := false } }
    let s2 := setPc r.1 r.2
    { s2 with run := { s2.run with burn := Config.resetCycles } }

/-- `soft_reset()` (R592): PPU, APU, mapper, the orchestrator's counters, and the CPU last. -/
def softReset (s : State) : State :=
  let s1 := mapperReset (apuReset (ppuReset s))
  cpuReset { s1 with
    orch := { s1.orch with acc := 0, scanline := resetScanline }
    fiq := { cycles := (fiqPeriod : Int), state := 0, occurred := false, restarted := false }
    pads := { index0 := 0, index1 := 0 } }

/-- Fill the nametable RAM, OAM, palette (6 bits a cell, D28) and `rdbuf` with draws (R591). -/
def drawPpuMemories (s : State) : State :=
  let nt := takeDraws 4096 s
  let oam := takeDraws 256 nt.2
  let pal := takeDraws 32 oam.2
  let rd := takeDraw pal.2
  { rd.2 with
    mem := { s.mem with
      nt := Memory.ofBytes nt.1
      oam := Memory.ofBytes oam.1
      pal := Memory.ofBytes (pal.1.map (fun b => b &&& 0x3F)) }
    ppu := { s.ppu with rdbuf := rd.1 } }

/-- Fill CHR-RAM, where the cartridge has it, with draws (R591). -/
def drawChrRam (s : State) : State :=
  if s.cart.chrBanks = 0 then
    let r := takeDraws 8192 s
    { r.2 with mem := { s.mem with chr := Memory.ofBytes r.1 } }
  else s

/-- A, X, Y and S become draws (R591). -/
def drawRegisters (s : State) : State :=
  let a := takeDraw s
  let x := takeDraw a.2
  let y := takeDraw x.2
  let p := takeDraw y.2
  { p.2 with cpu := { s.cpu with a := a.1, x := x.1, y := y.1, sp := p.1 } }

/-- `hard_reset()` (R591). -/
def hardReset (s : State) : State :=
  let s1 := drawRegisters (drawPpuMemories (drawChrRam { s with mem := { s.mem with ram := [] } }))
  softReset { s1 with run := { s1.run with cycles := 0 } }

end Sys2Proof.Machine
end

