-- ==== Sys2Proof/Machine/Cartridge.lean ====
section
/-! DEFINITION. The iNES image, insert and eject, and the save state (64_frame_sync.md R577-R581). -/

namespace Sys2Proof.Machine

/-! ### The iNES image -/

/-- Byte `k` of an image. -/
def imageByte (image : List Byte) (k : Nat) : Byte := image.getD k 0

/-- The image is taken as legacy if a reserved byte 8-15 is nonzero (R577). -/
def legacyHeader (image : List Byte) : Bool := ((image.drop 8).take 8).any (fun b => decide (b ≠ 0))

/-- The mapper number (R577): flags7's nibble counts only outside a legacy header. -/
def imageMapper (image : List Byte) : Nat :=
  let low := (imageByte image 6).toNat / 16
  if legacyHeader image then low else (imageByte image 7).toNat / 16 * 16 + low

/-- The header's half of the rominfo (R577). -/
def imageCart (image : List Byte) : Cart :=
  let f := imageByte image 6
  { attached := true
    mapper := imageMapper image
    prgBanks := (imageByte image 4).toNat
    chrBanks := (imageByte image 5).toNat
    vertical := f.getLsbD 0
    battery := f.getLsbD 1
    trainer := f.getLsbD 2
    fourScreen := f.getLsbD 3 }

/-- The offset of the PRG banks in the image: after the header and the trainer, if there is one (R577). -/
def Cart.prgOffset (c : Cart) : Nat := if c.trainer then 16 + 512 else 16

/-- The length the header asks for (R577). -/
def Cart.imageLength (c : Cart) : Nat := c.prgOffset + 16384 * c.prgBanks + 8192 * c.chrBanks

/-- The registry (63_mapper.md R500); another number is unsupported (D1; log 21). -/
def supportedMapper (n : Nat) : Bool := n = 0 || n = 1 || n = 4

/-- Steps 1 and 2 of `insert`: the rominfo's header half, or why the load fails (R577, R578). R580 asks for an error status alone: the
statuses, and the order of the tests, which decides the status of an image with several faults, are a DESIGN CHOICE (log 37). -/
def parseImage (image : List Byte) : Except LoadStatus Cart :=
  if image.take 4 ≠ [0x4E, 0x45, 0x53, 0x1A] then .error .badMagic
  else if image.length < 16 then .error .shortImage
  else
    let c := imageCart image
    if c.prgBanks = 0 then .error .noPrgBanks
    else if image.length < c.imageLength then .error .shortImage
    else if supportedMapper c.mapper then .ok c
    else .error .unsupportedMapper

/-- SRAM at insert (R578 steps 3 to 5): draws, then the trainer at offset $1000, then the host's battery image over them. -/
def insertedSram (c : Cart) (image : List Byte) (batteryImage : Option (List Byte)) (drawn : List Byte) : Memory :=
  let m := Memory.ofBytes drawn
  let m1 := if c.trainer then m.writeBytes 0x1000 ((image.drop 16).take 512) else m
  match batteryImage with
  | some b => m1.writeBytes 0 (b.take 8192)
  | none => m1

/-- The CPU page table before the default mapping (63_mapper.md R506 step 1): every entry of $8000-$FFFF is written next. The base 0
of the RAM entries 0 and 1, which no decode consults (10_state.md R45), is a DESIGN CHOICE (log 34). -/
def insertPages : Vector Page 16 :=
  ⟨#[.mapped .ram 0, .mapped .ram 0, .dead, .dead, .dead, .dead, .mapped .sram 0, .mapped .sram 4096,
     .dead, .dead, .dead, .dead, .dead, .dead, .dead, .dead], rfl⟩

/-- Steps 3 and 4 of `insert`: the rominfo and its memories, and the mapping (R578, 63_mapper.md R506). -/
def attach (c : Cart) (image : List Byte) (batteryImage : Option (List Byte)) (s : State) : State :=
  let d := takeDraws 8192 s
  let body := image.drop c.prgOffset
  let s1 := { d.2 with
    cart := c
    pages := insertPages
    mem := { s.mem with
      prg := Memory.ofBytes (body.take c.prgBytes)
      chr := Memory.ofBytes ((body.drop c.prgBytes).take (8192 * c.chrBanks))
      sram := insertedSram c image batteryImage d.1 }
    mmc1 := Mmc1.reset
    mmc3 := Mmc3.reset }
  mapperInit (defaultMapping s1)

/-- `insert(image)` (R578): a failed load returns a status and changes nothing else (R580). -/
def insertCartridge (image : List Byte) (batteryImage : Option (List Byte)) (s : State) : State :=
  match parseImage image with
  | .error e => { s with host := { s.host with status := e } }
  | .ok c =>
    let s1 := hardReset (attach c image batteryImage s)
    { s1 with host := { s1.host with status := .loaded } }

/-- No cartridge attached (R581). -/
def Cart.absent : Cart := ⟨false, 0, 0, 0, false, false, false, false⟩

/-- The CPU page table with no cartridge: only CPU RAM is there (log 20; its bases, log 34). -/
def ejectedPages : Vector Page 16 :=
  ⟨#[.mapped .ram 0, .mapped .ram 0, .dead, .dead, .dead, .dead, .dead, .dead,
     .dead, .dead, .dead, .dead, .dead, .dead, .dead, .dead], rfl⟩

/-- `eject()` (R581): the rominfo, with its memories, is destroyed. -/
def ejectCartridge (s : State) : State :=
  { s with cart := Cart.absent, pages := ejectedPages, mem := { s.mem with prg := [], chr := [], sram := [] } }

/-! ### Save states -/

/-- `save_state()` (R579): the state of 10_state.md R30-R74. -/
def takeSnapshot (s : State) : Snapshot where
  cpu := s.cpu
  run := s.run
  pages := s.pages
  mem := s.mem
  ppu := s.ppu
  apu := s.apu
  cart := s.cart
  mmc1 := s.mmc1
  mmc3 := s.mmc3
  orch := s.orch
  fiq := s.fiq
  pads := s.pads

/-- Whether `k` was saved under the image that is attached now: the same header, PRG bytes and, if it has any, CHR-ROM bytes
(10_state.md R66, R75). CHR-RAM and SRAM are contents, not image. -/
def sameImage (k : Snapshot) (s : State) : Bool :=
  decide (k.cart = s.cart) && decide (k.mem.prg = s.mem.prg) && (decide (s.cart.chrBanks = 0) || decide (k.mem.chr = s.mem.chr))

/-- The whole saved state but `refused` (R579). The mapper hooks' mapping (63_mapper.md R509) is the saved one, so that a load after
a save is the identity (log 18). -/
def restoreSnapshot (k : Snapshot) (s : State) : State :=
  { s with
    cpu := k.cpu, run := { k.run with refused := s.run.refused }, pages := k.pages, mem := k.mem, ppu := k.ppu, apu := k.apu,
    cart := k.cart, mmc1 := k.mmc1, mmc3 := k.mmc3, orch := k.orch, fiq := k.fiq, pads := k.pads }

/-- `load_state(s)` (R579). The image is constant once inserted (10_state.md R75), so a state saved under another image is not loaded.
DESIGN CHOICE: such a load fails as R580 has a load fail, with a status and no other change (log 18). -/
def loadSnapshot (k : Snapshot) (s : State) : State :=
  if sameImage k s then restoreSnapshot k s else { s with host := { s.host with status := .otherCartridge } }

end Sys2Proof.Machine
end

