-- ==== Sys2Proof/Machine/Operands.lean ====
section
/-! DEFINITION. Operand assembly: effective addresses, and the helpers Load, Store and RMW (30_encoding.md R174-R189). -/

namespace Sys2Proof.Machine

/-- `ZpRead16(z)`: the pointer's second byte wraps in page zero (00_scope.md R10). -/
def zpRead16 (z : Byte) (s : State) : Addr × State :=
  let lo := memRead (zext z) s
  let hi := memRead (zext (z + 1)) lo.2
  (mkAddr hi.1 lo.1, hi.2)

/-- An effective address, with the address before indexing and whether indexing crossed a page (R182, R183, R185). -/
structure Effective where
  addr : Addr
  base : Addr
  crossed : Bool
deriving DecidableEq, Repr

/-- An effective address that no index carries to another page. -/
def plainEffective (a : Addr) : Effective := ⟨a, a, false⟩

/-- `base` indexed by a register: the sum carries into the high byte and wraps at $FFFF (R182). -/
def indexedEffective (base : Addr) (i : Byte) : Effective :=
  ⟨base + zext i, base, decide (hiByte base ≠ hiByte (base + zext i))⟩

/-- The effective address of an operand (R178-R185), after its pointer reads. The formats imp, acc, brk, imm, rel and ind have
none: no instruction asks for it, and the answer is address 0. -/
def effAddr (o : Operand) (s : State) : Effective × State :=
  match o with
  | .zp z => (plainEffective (zext z), s)
  | .zpx z => (plainEffective (zext (z + s.cpu.x)), s)
  | .zpy z => (plainEffective (zext (z + s.cpu.y)), s)
  | .abs l h => (plainEffective (mkAddr h l), s)
  | .absx l h => (indexedEffective (mkAddr h l) s.cpu.x, s)
  | .absy l h => (indexedEffective (mkAddr h l) s.cpu.y, s)
  | .izx z =>
    let p := zpRead16 (z + s.cpu.x) s
    (plainEffective p.1, p.2)
  | .izy z =>
    let p := zpRead16 z s
    (indexedEffective p.1 s.cpu.y, p.2)
  | .imp => (plainEffective 0, s)
  | .acc => (plainEffective 0, s)
  | .brk => (plainEffective 0, s)
  | .imm _ => (plainEffective 0, s)
  | .rel _ => (plainEffective 0, s)
  | .ind _ _ => (plainEffective 0, s)

/-- The target of JMP indirect, with the page-boundary bug: the pointer's high byte is not carried (R186). -/
def indirectTarget (l h : Byte) (s : State) : Addr × State :=
  let lo := memRead (mkAddr h l) s
  let hi := memRead (mkAddr h (l + 1)) lo.2
  (mkAddr hi.1 lo.1, hi.2)

/-- The target of a branch, from the pc after it (R187). -/
def branchTarget (pc : Addr) (r : Byte) : Addr := pc + sext r

/-- What `Load()` gives: the operand byte, and whether its address crossed a page. -/
structure Loaded where
  val : Byte
  crossed : Bool
deriving DecidableEq, Repr

/-- `Load()` (R188). -/
def loadOperand (o : Operand) (s : State) : Loaded × State :=
  match o with
  | .imm v => (⟨v, false⟩, s)
  | .acc => (⟨s.cpu.a, false⟩, s)
  | _ =>
    let e := effAddr o s
    let r := memRead e.1.addr e.2
    (⟨r.1, e.1.crossed⟩, r.2)

/-- The cost of a reading instruction: `n+p` charges one more on a page cross (R189). -/
def readCost (base : Nat) (crossed : Bool) : Nat := base + (if crossed then 1 else 0)

/-- A reading instruction: load the operand, apply its effect, charge `base+p`. -/
def readInstr (o : Operand) (base : Nat) (effect : Byte → State → State) (s : State) : Result :=
  let r := loadOperand o s
  finish (readCost base r.1.crossed) (effect r.1.val r.2)

/-- A storing instruction: `Store(v)` at the effective address, at a fixed cost (R188, R189). -/
def storeInstr (o : Operand) (cost : Nat) (v : Byte) (s : State) : Result :=
  let e := effAddr o s
  finish cost (memWrite e.1.addr v e.2)

/-- `RMW(f)` (R188): one read and one write, or A; `f` also gives the flags. The answer holds the byte written. -/
def rmwOperand (o : Operand) (f : Byte → Flags → Byte × Flags) (s : State) : Byte × State :=
  match o with
  | .acc =>
    let r := f s.cpu.a s.cpu.f
    (r.1, setFlags r.2 (setA r.1 s))
  | _ =>
    let e := effAddr o s
    let t := memRead e.1.addr e.2
    let r := f t.1 s.cpu.f
    (r.1, setFlags r.2 (memWrite e.1.addr r.1 t.2))

/-- A read-modify-write instruction, at a fixed cost (R189). -/
def rmwInstr (o : Operand) (cost : Nat) (f : Byte → Flags → Byte × Flags) (s : State) : Result :=
  finish cost (rmwOperand o f s).2

/-- A read-modify-write instruction that then uses the byte it wrote (45_jam_undocumented.md R314-R317, R320, R321). -/
def rmwThenInstr (o : Operand) (cost : Nat) (f : Byte → Flags → Byte × Flags) (effect : Byte → State → State) (s : State) :
    Result :=
  let r := rmwOperand o f s
  finish cost (effect r.1 r.2)

end Sys2Proof.Machine
end

