-- ==== Sys2Proof/Machine/Arith.lean ====
section
/-! DEFINITION. Arithmetic, logic, compare, increment and decrement (41_arith_logic.md R235-R249). -/

namespace Sys2Proof.Machine

/-- An operation on A and the operand that gives A and the flags: ADC, SBC. -/
def arithInstr (op : Byte → Byte → Flags → Byte × Flags) (o : Operand) (base : Nat) (s : State) : Result :=
  readInstr o base (fun m s => let r := op s.cpu.a m s.cpu.f; setFlags r.2 (setA r.1 s)) s

/-- ADC (R235). -/
def adc (o : Operand) (base : Nat) (s : State) : Result := arithInstr adcOp o base s

/-- SBC (R236). -/
def sbc (o : Operand) (base : Nat) (s : State) : Result := arithInstr sbcOp o base s

/-- A logic operation on A and the operand, with setNZ. -/
def logicInstr (op : Byte → Byte → Byte) (o : Operand) (base : Nat) (s : State) : Result :=
  readInstr o base (fun m s => setNZ (op s.cpu.a m) (setA (op s.cpu.a m) s)) s

/-- AND (R237). -/
def and (o : Operand) (base : Nat) (s : State) : Result := logicInstr (fun a m => a &&& m) o base s

/-- ORA (R238). -/
def ora (o : Operand) (base : Nat) (s : State) : Result := logicInstr (fun a m => a ||| m) o base s

/-- EOR (R239). -/
def eor (o : Operand) (base : Nat) (s : State) : Result := logicInstr (fun a m => a ^^^ m) o base s

/-- A compare of a register with the operand (R234). -/
def compareInstr (reg : Byte) (o : Operand) (base : Nat) (s : State) : Result :=
  readInstr o base (fun m s => setFlags (compareOp reg m s.cpu.f) s) s

/-- CMP (R240). -/
def cmp (o : Operand) (base : Nat) (s : State) : Result := compareInstr s.cpu.a o base s

/-- CPX (R241). -/
def cpx (o : Operand) (base : Nat) (s : State) : Result := compareInstr s.cpu.x o base s

/-- CPY (R242). -/
def cpy (o : Operand) (base : Nat) (s : State) : Result := compareInstr s.cpu.y o base s

/-- BIT (R243). -/
def bit (o : Operand) (base : Nat) (s : State) : Result :=
  readInstr o base (fun m s => setFlags (bitOp s.cpu.a m s.cpu.f) s) s

/-- $61 `ADC ($nn,X)` (R235). -/
def execAdcIzx (z : Byte) (s : State) : Result := adc (.izx z) 6 s

/-- $65 `ADC $nn` (R235). -/
def execAdcZp (z : Byte) (s : State) : Result := adc (.zp z) 3 s

/-- $69 `ADC #$nn` (R235). -/
def execAdcImm (v : Byte) (s : State) : Result := adc (.imm v) 2 s

/-- $6D `ADC $nnnn` (R235). -/
def execAdcAbs (l h : Byte) (s : State) : Result := adc (.abs l h) 4 s

/-- $71 `ADC ($nn),Y` (R235). -/
def execAdcIzy (z : Byte) (s : State) : Result := adc (.izy z) 5 s

/-- $75 `ADC $nn,X` (R235). -/
def execAdcZpx (z : Byte) (s : State) : Result := adc (.zpx z) 4 s

/-- $79 `ADC $nnnn,Y` (R235). -/
def execAdcAbsy (l h : Byte) (s : State) : Result := adc (.absy l h) 4 s

/-- $7D `ADC $nnnn,X` (R235). -/
def execAdcAbsx (l h : Byte) (s : State) : Result := adc (.absx l h) 4 s

/-- $E1 `SBC ($nn,X)` (R236). -/
def execSbcIzx (z : Byte) (s : State) : Result := sbc (.izx z) 6 s

/-- $E5 `SBC $nn` (R236). -/
def execSbcZp (z : Byte) (s : State) : Result := sbc (.zp z) 3 s

/-- $E9 `SBC #$nn` (R236). -/
def execSbcImm (v : Byte) (s : State) : Result := sbc (.imm v) 2 s

/-- $EB `SBC #$nn` (R326). -/
def execSbcImmEB (v : Byte) (s : State) : Result := sbc (.imm v) 2 s

/-- $ED `SBC $nnnn` (R236). -/
def execSbcAbs (l h : Byte) (s : State) : Result := sbc (.abs l h) 4 s

/-- $F1 `SBC ($nn),Y` (R236). -/
def execSbcIzy (z : Byte) (s : State) : Result := sbc (.izy z) 5 s

/-- $F5 `SBC $nn,X` (R236). -/
def execSbcZpx (z : Byte) (s : State) : Result := sbc (.zpx z) 4 s

/-- $F9 `SBC $nnnn,Y` (R236). -/
def execSbcAbsy (l h : Byte) (s : State) : Result := sbc (.absy l h) 4 s

/-- $FD `SBC $nnnn,X` (R236). -/
def execSbcAbsx (l h : Byte) (s : State) : Result := sbc (.absx l h) 4 s

/-- $21 `AND ($nn,X)` (R237). -/
def execAndIzx (z : Byte) (s : State) : Result := and (.izx z) 6 s

/-- $25 `AND $nn` (R237). -/
def execAndZp (z : Byte) (s : State) : Result := and (.zp z) 3 s

/-- $29 `AND #$nn` (R237). -/
def execAndImm (v : Byte) (s : State) : Result := and (.imm v) 2 s

/-- $2D `AND $nnnn` (R237). -/
def execAndAbs (l h : Byte) (s : State) : Result := and (.abs l h) 4 s

/-- $31 `AND ($nn),Y` (R237). -/
def execAndIzy (z : Byte) (s : State) : Result := and (.izy z) 5 s

/-- $35 `AND $nn,X` (R237). -/
def execAndZpx (z : Byte) (s : State) : Result := and (.zpx z) 4 s

/-- $39 `AND $nnnn,Y` (R237). -/
def execAndAbsy (l h : Byte) (s : State) : Result := and (.absy l h) 4 s

/-- $3D `AND $nnnn,X` (R237). -/
def execAndAbsx (l h : Byte) (s : State) : Result := and (.absx l h) 4 s

/-- $01 `ORA ($nn,X)` (R238). -/
def execOraIzx (z : Byte) (s : State) : Result := ora (.izx z) 6 s

/-- $05 `ORA $nn` (R238). -/
def execOraZp (z : Byte) (s : State) : Result := ora (.zp z) 3 s

/-- $09 `ORA #$nn` (R238). -/
def execOraImm (v : Byte) (s : State) : Result := ora (.imm v) 2 s

/-- $0D `ORA $nnnn` (R238). -/
def execOraAbs (l h : Byte) (s : State) : Result := ora (.abs l h) 4 s

/-- $11 `ORA ($nn),Y` (R238). -/
def execOraIzy (z : Byte) (s : State) : Result := ora (.izy z) 5 s

/-- $15 `ORA $nn,X` (R238). -/
def execOraZpx (z : Byte) (s : State) : Result := ora (.zpx z) 4 s

/-- $19 `ORA $nnnn,Y` (R238). -/
def execOraAbsy (l h : Byte) (s : State) : Result := ora (.absy l h) 4 s

/-- $1D `ORA $nnnn,X` (R238). -/
def execOraAbsx (l h : Byte) (s : State) : Result := ora (.absx l h) 4 s

/-- $41 `EOR ($nn,X)` (R239). -/
def execEorIzx (z : Byte) (s : State) : Result := eor (.izx z) 6 s

/-- $45 `EOR $nn` (R239). -/
def execEorZp (z : Byte) (s : State) : Result := eor (.zp z) 3 s

/-- $49 `EOR #$nn` (R239). -/
def execEorImm (v : Byte) (s : State) : Result := eor (.imm v) 2 s

/-- $4D `EOR $nnnn` (R239). -/
def execEorAbs (l h : Byte) (s : State) : Result := eor (.abs l h) 4 s

/-- $51 `EOR ($nn),Y` (R239). -/
def execEorIzy (z : Byte) (s : State) : Result := eor (.izy z) 5 s

/-- $55 `EOR $nn,X` (R239). -/
def execEorZpx (z : Byte) (s : State) : Result := eor (.zpx z) 4 s

/-- $59 `EOR $nnnn,Y` (R239). -/
def execEorAbsy (l h : Byte) (s : State) : Result := eor (.absy l h) 4 s

/-- $5D `EOR $nnnn,X` (R239). -/
def execEorAbsx (l h : Byte) (s : State) : Result := eor (.absx l h) 4 s

/-- $C1 `CMP ($nn,X)` (R240). -/
def execCmpIzx (z : Byte) (s : State) : Result := cmp (.izx z) 6 s

/-- $C5 `CMP $nn` (R240). -/
def execCmpZp (z : Byte) (s : State) : Result := cmp (.zp z) 3 s

/-- $C9 `CMP #$nn` (R240). -/
def execCmpImm (v : Byte) (s : State) : Result := cmp (.imm v) 2 s

/-- $CD `CMP $nnnn` (R240). -/
def execCmpAbs (l h : Byte) (s : State) : Result := cmp (.abs l h) 4 s

/-- $D1 `CMP ($nn),Y` (R240). -/
def execCmpIzy (z : Byte) (s : State) : Result := cmp (.izy z) 5 s

/-- $D5 `CMP $nn,X` (R240). -/
def execCmpZpx (z : Byte) (s : State) : Result := cmp (.zpx z) 4 s

/-- $D9 `CMP $nnnn,Y` (R240). -/
def execCmpAbsy (l h : Byte) (s : State) : Result := cmp (.absy l h) 4 s

/-- $DD `CMP $nnnn,X` (R240). -/
def execCmpAbsx (l h : Byte) (s : State) : Result := cmp (.absx l h) 4 s

/-- $E0 `CPX #$nn` (R241). -/
def execCpxImm (v : Byte) (s : State) : Result := cpx (.imm v) 2 s

/-- $E4 `CPX $nn` (R241). -/
def execCpxZp (z : Byte) (s : State) : Result := cpx (.zp z) 3 s

/-- $EC `CPX $nnnn` (R241). -/
def execCpxAbs (l h : Byte) (s : State) : Result := cpx (.abs l h) 4 s

/-- $C0 `CPY #$nn` (R242). -/
def execCpyImm (v : Byte) (s : State) : Result := cpy (.imm v) 2 s

/-- $C4 `CPY $nn` (R242). -/
def execCpyZp (z : Byte) (s : State) : Result := cpy (.zp z) 3 s

/-- $CC `CPY $nnnn` (R242). -/
def execCpyAbs (l h : Byte) (s : State) : Result := cpy (.abs l h) 4 s

/-- $24 `BIT $nn` (R243). -/
def execBitZp (z : Byte) (s : State) : Result := bit (.zp z) 3 s

/-- $2C `BIT $nnnn` (R243). -/
def execBitAbs (l h : Byte) (s : State) : Result := bit (.abs l h) 4 s

/-- $E6 `INC $nn` (R244). -/
def execIncZp (z : Byte) (s : State) : Result := rmwInstr (.zp z) 5 incOp s

/-- $EE `INC $nnnn` (R244). -/
def execIncAbs (l h : Byte) (s : State) : Result := rmwInstr (.abs l h) 6 incOp s

/-- $F6 `INC $nn,X` (R244). -/
def execIncZpx (z : Byte) (s : State) : Result := rmwInstr (.zpx z) 6 incOp s

/-- $FE `INC $nnnn,X` (R244). -/
def execIncAbsx (l h : Byte) (s : State) : Result := rmwInstr (.absx l h) 7 incOp s

/-- $E8 `INX` (R245). -/
def execInx (s : State) : Result := finish 2 (setNZ (s.cpu.x + 1) (setX (s.cpu.x + 1) s))

/-- $C8 `INY` (R246). -/
def execIny (s : State) : Result := finish 2 (setNZ (s.cpu.y + 1) (setY (s.cpu.y + 1) s))

/-- $C6 `DEC $nn` (R247). -/
def execDecZp (z : Byte) (s : State) : Result := rmwInstr (.zp z) 5 decOp s

/-- $CE `DEC $nnnn` (R247). -/
def execDecAbs (l h : Byte) (s : State) : Result := rmwInstr (.abs l h) 6 decOp s

/-- $D6 `DEC $nn,X` (R247). -/
def execDecZpx (z : Byte) (s : State) : Result := rmwInstr (.zpx z) 6 decOp s

/-- $DE `DEC $nnnn,X` (R247). -/
def execDecAbsx (l h : Byte) (s : State) : Result := rmwInstr (.absx l h) 7 decOp s

/-- $CA `DEX` (R248). -/
def execDex (s : State) : Result := finish 2 (setNZ (s.cpu.x - 1) (setX (s.cpu.x - 1) s))

/-- $88 `DEY` (R249). -/
def execDey (s : State) : Result := finish 2 (setNZ (s.cpu.y - 1) (setY (s.cpu.y - 1) s))

end Sys2Proof.Machine
end

