-- ==== Sys2Proof/Machine/Branch.lean ====
section
/-! DEFINITION. Branches, jumps, calls, returns, BRK and RTI (43_control_transfer.md R270-R283). -/

namespace Sys2Proof.Machine

/-- The cost of a branch (R270): 2, 3 when taken, 4 when taken to another page than that of the next instruction. -/
def branchCost (taken : Bool) (pc target : Addr) : Nat :=
  if taken then (if hiByte target ≠ hiByte pc then 4 else 3) else 2

/-- The common rule of the eight branches (R270). -/
def branchInstr (taken : Bool) (r : Byte) (s : State) : Result :=
  let target := branchTarget s.cpu.pc r
  finish (branchCost taken s.cpu.pc target) (if taken then setPc target s else s)

/-- $10 `BPL label` (R271). -/
def execBpl (r : Byte) (s : State) : Result := branchInstr (!s.cpu.f.n) r s

/-- $30 `BMI label` (R272). -/
def execBmi (r : Byte) (s : State) : Result := branchInstr s.cpu.f.n r s

/-- $50 `BVC label` (R273). -/
def execBvc (r : Byte) (s : State) : Result := branchInstr (!s.cpu.f.v) r s

/-- $70 `BVS label` (R274). -/
def execBvs (r : Byte) (s : State) : Result := branchInstr s.cpu.f.v r s

/-- $90 `BCC label` (R275). -/
def execBcc (r : Byte) (s : State) : Result := branchInstr (!s.cpu.f.c) r s

/-- $B0 `BCS label` (R276). -/
def execBcs (r : Byte) (s : State) : Result := branchInstr s.cpu.f.c r s

/-- $D0 `BNE label` (R277). -/
def execBne (r : Byte) (s : State) : Result := branchInstr (!s.cpu.f.z) r s

/-- $F0 `BEQ label` (R278). -/
def execBeq (r : Byte) (s : State) : Result := branchInstr s.cpu.f.z r s

/-- $4C `JMP $nnnn` (R279). -/
def execJmpAbs (l h : Byte) (s : State) : Result := finish 3 (setPc (mkAddr h l) s)

/-- $6C `JMP ($nnnn)` (R279). -/
def execJmpInd (l h : Byte) (s : State) : Result := finish 5 (setPc (indirectTarget l h s).1 (indirectTarget l h s).2)

/-- $20 `JSR $nnnn` (R280). -/
def execJsrAbs (l h : Byte) (s : State) : Result := finish 6 (setPc (mkAddr h l) (push16 (s.cpu.pc - 1) s))

/-- $60 `RTS` (R281). -/
def execRts (s : State) : Result := finish 6 (setPc ((pull16 s).1 + 1) (pull16 s).2)

/-- $00 `BRK` (R282). -/
def execBrk (s : State) : Result := finish 7 (enterInterrupt true irqVector (setPc (s.cpu.pc + 1) s))

/-- $40 `RTI` (R283). -/
def execRti (s : State) : Result := finish 6 (returnFromInterrupt s)

end Sys2Proof.Machine
end

