-- ==== Sys2Proof/Machine/LoadStore.lean ====
section
/-! DEFINITION. Loads, stores and register transfers (40_load_store_transfer.md R210-R221). -/

namespace Sys2Proof.Machine

/-- LDA (R210). -/
def lda (o : Operand) (base : Nat) (s : State) : Result := readInstr o base (fun v s => setNZ v (setA v s)) s

/-- LDX (R211). -/
def ldx (o : Operand) (base : Nat) (s : State) : Result := readInstr o base (fun v s => setNZ v (setX v s)) s

/-- LDY (R212). -/
def ldy (o : Operand) (base : Nat) (s : State) : Result := readInstr o base (fun v s => setNZ v (setY v s)) s

/-- STA (R213). -/
def sta (o : Operand) (cost : Nat) (s : State) : Result := storeInstr o cost s.cpu.a s

/-- STX (R214). -/
def stx (o : Operand) (cost : Nat) (s : State) : Result := storeInstr o cost s.cpu.x s

/-- STY (R215). -/
def sty (o : Operand) (cost : Nat) (s : State) : Result := storeInstr o cost s.cpu.y s

/-- $A1 `LDA ($nn,X)` (R210). -/
def execLdaIzx (z : Byte) (s : State) : Result := lda (.izx z) 6 s

/-- $A5 `LDA $nn` (R210). -/
def execLdaZp (z : Byte) (s : State) : Result := lda (.zp z) 3 s

/-- $A9 `LDA #$nn` (R210). -/
def execLdaImm (v : Byte) (s : State) : Result := lda (.imm v) 2 s

/-- $AD `LDA $nnnn` (R210). -/
def execLdaAbs (l h : Byte) (s : State) : Result := lda (.abs l h) 4 s

/-- $B1 `LDA ($nn),Y` (R210). -/
def execLdaIzy (z : Byte) (s : State) : Result := lda (.izy z) 5 s

/-- $B5 `LDA $nn,X` (R210). -/
def execLdaZpx (z : Byte) (s : State) : Result := lda (.zpx z) 4 s

/-- $B9 `LDA $nnnn,Y` (R210). -/
def execLdaAbsy (l h : Byte) (s : State) : Result := lda (.absy l h) 4 s

/-- $BD `LDA $nnnn,X` (R210). -/
def execLdaAbsx (l h : Byte) (s : State) : Result := lda (.absx l h) 4 s

/-- $A2 `LDX #$nn` (R211). -/
def execLdxImm (v : Byte) (s : State) : Result := ldx (.imm v) 2 s

/-- $A6 `LDX $nn` (R211). -/
def execLdxZp (z : Byte) (s : State) : Result := ldx (.zp z) 3 s

/-- $AE `LDX $nnnn` (R211). -/
def execLdxAbs (l h : Byte) (s : State) : Result := ldx (.abs l h) 4 s

/-- $B6 `LDX $nn,Y` (R211). -/
def execLdxZpy (z : Byte) (s : State) : Result := ldx (.zpy z) 4 s

/-- $BE `LDX $nnnn,Y` (R211). -/
def execLdxAbsy (l h : Byte) (s : State) : Result := ldx (.absy l h) 4 s

/-- $A0 `LDY #$nn` (R212). -/
def execLdyImm (v : Byte) (s : State) : Result := ldy (.imm v) 2 s

/-- $A4 `LDY $nn` (R212). -/
def execLdyZp (z : Byte) (s : State) : Result := ldy (.zp z) 3 s

/-- $AC `LDY $nnnn` (R212). -/
def execLdyAbs (l h : Byte) (s : State) : Result := ldy (.abs l h) 4 s

/-- $B4 `LDY $nn,X` (R212). -/
def execLdyZpx (z : Byte) (s : State) : Result := ldy (.zpx z) 4 s

/-- $BC `LDY $nnnn,X` (R212). -/
def execLdyAbsx (l h : Byte) (s : State) : Result := ldy (.absx l h) 4 s

/-- $81 `STA ($nn,X)` (R213). -/
def execStaIzx (z : Byte) (s : State) : Result := sta (.izx z) 6 s

/-- $85 `STA $nn` (R213). -/
def execStaZp (z : Byte) (s : State) : Result := sta (.zp z) 3 s

/-- $8D `STA $nnnn` (R213). -/
def execStaAbs (l h : Byte) (s : State) : Result := sta (.abs l h) 4 s

/-- $91 `STA ($nn),Y` (R213). -/
def execStaIzy (z : Byte) (s : State) : Result := sta (.izy z) 6 s

/-- $95 `STA $nn,X` (R213). -/
def execStaZpx (z : Byte) (s : State) : Result := sta (.zpx z) 4 s

/-- $99 `STA $nnnn,Y` (R213). -/
def execStaAbsy (l h : Byte) (s : State) : Result := sta (.absy l h) 5 s

/-- $9D `STA $nnnn,X` (R213). -/
def execStaAbsx (l h : Byte) (s : State) : Result := sta (.absx l h) 5 s

/-- $86 `STX $nn` (R214). -/
def execStxZp (z : Byte) (s : State) : Result := stx (.zp z) 3 s

/-- $8E `STX $nnnn` (R214). -/
def execStxAbs (l h : Byte) (s : State) : Result := stx (.abs l h) 4 s

/-- $96 `STX $nn,Y` (R214). -/
def execStxZpy (z : Byte) (s : State) : Result := stx (.zpy z) 4 s

/-- $84 `STY $nn` (R215). -/
def execStyZp (z : Byte) (s : State) : Result := sty (.zp z) 3 s

/-- $8C `STY $nnnn` (R215). -/
def execStyAbs (l h : Byte) (s : State) : Result := sty (.abs l h) 4 s

/-- $94 `STY $nn,X` (R215). -/
def execStyZpx (z : Byte) (s : State) : Result := sty (.zpx z) 4 s

/-- $AA `TAX` (R216). -/
def execTax (s : State) : Result := finish 2 (setNZ s.cpu.a (setX s.cpu.a s))

/-- $A8 `TAY` (R217). -/
def execTay (s : State) : Result := finish 2 (setNZ s.cpu.a (setY s.cpu.a s))

/-- $8A `TXA` (R218). -/
def execTxa (s : State) : Result := finish 2 (setNZ s.cpu.x (setA s.cpu.x s))

/-- $98 `TYA` (R219). -/
def execTya (s : State) : Result := finish 2 (setNZ s.cpu.y (setA s.cpu.y s))

/-- $BA `TSX` (R220). -/
def execTsx (s : State) : Result := finish 2 (setNZ s.cpu.sp (setX s.cpu.sp s))

/-- $9A `TXS` (R221). -/
def execTxs (s : State) : Result := finish 2 (setSp s.cpu.x s)

end Sys2Proof.Machine
end

