-- ==== Sys2Proof/Machine/Shift.lean ====
section
/-! DEFINITION. Shifts and rotates (42_shift_rotate.md R260-R263). -/

namespace Sys2Proof.Machine

/-- $06 `ASL $nn` (R260). -/
def execAslZp (z : Byte) (s : State) : Result := rmwInstr (.zp z) 5 aslOp s

/-- $0A `ASL A` (R260). -/
def execAslAcc (s : State) : Result := rmwInstr .acc 2 aslOp s

/-- $0E `ASL $nnnn` (R260). -/
def execAslAbs (l h : Byte) (s : State) : Result := rmwInstr (.abs l h) 6 aslOp s

/-- $16 `ASL $nn,X` (R260). -/
def execAslZpx (z : Byte) (s : State) : Result := rmwInstr (.zpx z) 6 aslOp s

/-- $1E `ASL $nnnn,X` (R260). -/
def execAslAbsx (l h : Byte) (s : State) : Result := rmwInstr (.absx l h) 7 aslOp s

/-- $46 `LSR $nn` (R261). -/
def execLsrZp (z : Byte) (s : State) : Result := rmwInstr (.zp z) 5 lsrOp s

/-- $4A `LSR A` (R261). -/
def execLsrAcc (s : State) : Result := rmwInstr .acc 2 lsrOp s

/-- $4E `LSR $nnnn` (R261). -/
def execLsrAbs (l h : Byte) (s : State) : Result := rmwInstr (.abs l h) 6 lsrOp s

/-- $56 `LSR $nn,X` (R261). -/
def execLsrZpx (z : Byte) (s : State) : Result := rmwInstr (.zpx z) 6 lsrOp s

/-- $5E `LSR $nnnn,X` (R261). -/
def execLsrAbsx (l h : Byte) (s : State) : Result := rmwInstr (.absx l h) 7 lsrOp s

/-- $26 `ROL $nn` (R262). -/
def execRolZp (z : Byte) (s : State) : Result := rmwInstr (.zp z) 5 rolOp s

/-- $2A `ROL A` (R262). -/
def execRolAcc (s : State) : Result := rmwInstr .acc 2 rolOp s

/-- $2E `ROL $nnnn` (R262). -/
def execRolAbs (l h : Byte) (s : State) : Result := rmwInstr (.abs l h) 6 rolOp s

/-- $36 `ROL $nn,X` (R262). -/
def execRolZpx (z : Byte) (s : State) : Result := rmwInstr (.zpx z) 6 rolOp s

/-- $3E `ROL $nnnn,X` (R262). -/
def execRolAbsx (l h : Byte) (s : State) : Result := rmwInstr (.absx l h) 7 rolOp s

/-- $66 `ROR $nn` (R263). -/
def execRorZp (z : Byte) (s : State) : Result := rmwInstr (.zp z) 5 rorOp s

/-- $6A `ROR A` (R263). -/
def execRorAcc (s : State) : Result := rmwInstr .acc 2 rorOp s

/-- $6E `ROR $nnnn` (R263). -/
def execRorAbs (l h : Byte) (s : State) : Result := rmwInstr (.abs l h) 6 rorOp s

/-- $76 `ROR $nn,X` (R263). -/
def execRorZpx (z : Byte) (s : State) : Result := rmwInstr (.zpx z) 6 rorOp s

/-- $7E `ROR $nnnn,X` (R263). -/
def execRorAbsx (l h : Byte) (s : State) : Result := rmwInstr (.absx l h) 7 rorOp s

end Sys2Proof.Machine
end

