-- ==== Sys2Proof/Machine/StackFlag.lean ====
section
/-! DEFINITION. Stack, flag and NOP instructions (44_stack_flags_misc.md R290-R301), and the undocumented NOPs
(45_jam_undocumented.md R313). -/

namespace Sys2Proof.Machine

/-- A NOP that reads its operand and discards it (R313). -/
def nopRead (o : Operand) (base : Nat) (s : State) : Result := readInstr o base (fun _ s => s) s

/-- $48 `PHA` (R290). -/
def execPha (s : State) : Result := finish 3 (push s.cpu.a s)

/-- $08 `PHP` (R291). -/
def execPhp (s : State) : Result := finish 3 (push (s.cpu.f.pushed true) s)

/-- $68 `PLA` (R292). -/
def execPla (s : State) : Result := finish 4 (setNZ (pull s).1 (setA (pull s).1 (pull s).2))

/-- $28 `PLP` (R293). -/
def execPlp (s : State) : Result := finish 4 (setFlags (Flags.pulled (pull s).1) (pull s).2)

/-- $18 `CLC` (R294). -/
def execClc (s : State) : Result := finish 2 (setFlags { s.cpu.f with c := false } s)

/-- $38 `SEC` (R295). -/
def execSec (s : State) : Result := finish 2 (setFlags { s.cpu.f with c := true } s)

/-- $58 `CLI` (R296). -/
def execCli (s : State) : Result := finish 2 (setFlags { s.cpu.f with i := false } s)

/-- $78 `SEI` (R297). -/
def execSei (s : State) : Result := finish 2 (setFlags { s.cpu.f with i := true } s)

/-- $D8 `CLD` (R298). -/
def execCld (s : State) : Result := finish 2 (setFlags { s.cpu.f with d := false } s)

/-- $F8 `SED` (R299). -/
def execSed (s : State) : Result := finish 2 (setFlags { s.cpu.f with d := true } s)

/-- $B8 `CLV` (R300). -/
def execClv (s : State) : Result := finish 2 (setFlags { s.cpu.f with v := false } s)

/-- $04 `NOP $nn` (R313). -/
def execNopZp04 (z : Byte) (s : State) : Result := nopRead (.zp z) 3 s

/-- $0C `NOP $nnnn` (R313). -/
def execNopAbs (l h : Byte) (s : State) : Result := nopRead (.abs l h) 4 s

/-- $14 `NOP $nn,X` (R313). -/
def execNopZpx14 (z : Byte) (s : State) : Result := nopRead (.zpx z) 4 s

/-- $1A `NOP` (R313). -/
def execNopImp1A (s : State) : Result := finish 2 s

/-- $1C `NOP $nnnn,X` (R313). -/
def execNopAbsx1C (l h : Byte) (s : State) : Result := nopRead (.absx l h) 4 s

/-- $34 `NOP $nn,X` (R313). -/
def execNopZpx34 (z : Byte) (s : State) : Result := nopRead (.zpx z) 4 s

/-- $3A `NOP` (R313). -/
def execNopImp3A (s : State) : Result := finish 2 s

/-- $3C `NOP $nnnn,X` (R313). -/
def execNopAbsx3C (l h : Byte) (s : State) : Result := nopRead (.absx l h) 4 s

/-- $44 `NOP $nn` (R313). -/
def execNopZp44 (z : Byte) (s : State) : Result := nopRead (.zp z) 3 s

/-- $54 `NOP $nn,X` (R313). -/
def execNopZpx54 (z : Byte) (s : State) : Result := nopRead (.zpx z) 4 s

/-- $5A `NOP` (R313). -/
def execNopImp5A (s : State) : Result := finish 2 s

/-- $5C `NOP $nnnn,X` (R313). -/
def execNopAbsx5C (l h : Byte) (s : State) : Result := nopRead (.absx l h) 4 s

/-- $64 `NOP $nn` (R313). -/
def execNopZp64 (z : Byte) (s : State) : Result := nopRead (.zp z) 3 s

/-- $74 `NOP $nn,X` (R313). -/
def execNopZpx74 (z : Byte) (s : State) : Result := nopRead (.zpx z) 4 s

/-- $7A `NOP` (R313). -/
def execNopImp7A (s : State) : Result := finish 2 s

/-- $7C `NOP $nnnn,X` (R313). -/
def execNopAbsx7C (l h : Byte) (s : State) : Result := nopRead (.absx l h) 4 s

/-- $80 `NOP #$nn` (R313). -/
def execNopImm80 (_v : Byte) (s : State) : Result := finish 2 s

/-- $82 `NOP #$nn` (R313). -/
def execNopImm82 (_v : Byte) (s : State) : Result := finish 2 s

/-- $89 `NOP #$nn` (R313). -/
def execNopImm89 (_v : Byte) (s : State) : Result := finish 2 s

/-- $C2 `NOP #$nn` (R313). -/
def execNopImmC2 (_v : Byte) (s : State) : Result := finish 2 s

/-- $D4 `NOP $nn,X` (R313). -/
def execNopZpxD4 (z : Byte) (s : State) : Result := nopRead (.zpx z) 4 s

/-- $DA `NOP` (R313). -/
def execNopImpDA (s : State) : Result := finish 2 s

/-- $DC `NOP $nnnn,X` (R313). -/
def execNopAbsxDC (l h : Byte) (s : State) : Result := nopRead (.absx l h) 4 s

/-- $E2 `NOP #$nn` (R313). -/
def execNopImmE2 (_v : Byte) (s : State) : Result := finish 2 s

/-- $EA `NOP` (R301). -/
def execNop (s : State) : Result := finish 2 s

/-- $F4 `NOP $nn,X` (R313). -/
def execNopZpxF4 (z : Byte) (s : State) : Result := nopRead (.zpx z) 4 s

/-- $FA `NOP` (R313). -/
def execNopImpFA (s : State) : Result := finish 2 s

/-- $FC `NOP $nnnn,X` (R313). -/
def execNopAbsxFC (l h : Byte) (s : State) : Result := nopRead (.absx l h) 4 s

end Sys2Proof.Machine
end

