-- ==== Sys2Proof/Machine/Undoc.lean ====
section
/-! DEFINITION. JAM (45_jam_undocumented.md R312) and the undocumented opcodes with their NMOS meanings (R314-R333). Under
`UNDOC_POLICY = refuse` the undocumented opcodes are refused before their operands are fetched (R311; Machine/RunControl.lean). -/

namespace Sys2Proof.Machine

/-- The JAM instructions (R312). -/
def jam (s : State) : Result := .next (jamCpu s)

/-- SLO (R314). -/
def slo (o : Operand) (cost : Nat) (s : State) : Result :=
  rmwThenInstr o cost aslOp (fun r s => setNZ (s.cpu.a ||| r) (setA (s.cpu.a ||| r) s)) s

/-- RLA (R315). -/
def rla (o : Operand) (cost : Nat) (s : State) : Result :=
  rmwThenInstr o cost rolOp (fun r s => setNZ (s.cpu.a &&& r) (setA (s.cpu.a &&& r) s)) s

/-- SRE (R316). -/
def sre (o : Operand) (cost : Nat) (s : State) : Result :=
  rmwThenInstr o cost lsrOp (fun r s => setNZ (s.cpu.a ^^^ r) (setA (s.cpu.a ^^^ r) s)) s

/-- RRA (R317): the addition uses the C that the rotate left. -/
def rra (o : Operand) (cost : Nat) (s : State) : Result :=
  rmwThenInstr o cost rorOp (fun r s => let q := adcOp s.cpu.a r s.cpu.f; setFlags q.2 (setA q.1 s)) s

/-- SAX (R318). -/
def sax (o : Operand) (cost : Nat) (s : State) : Result := storeInstr o cost (s.cpu.a &&& s.cpu.x) s

/-- LAX (R319). -/
def lax (o : Operand) (base : Nat) (s : State) : Result :=
  readInstr o base (fun v s => setNZ v (setX v (setA v s))) s

/-- DCP (R320): DEC without its flags, then Compare. -/
def dcp (o : Operand) (cost : Nat) (s : State) : Result :=
  rmwThenInstr o cost (fun t f => (t - 1, f)) (fun r s => setFlags (compareOp s.cpu.a r s.cpu.f) s) s

/-- ISB (R321): INC without its flags, then SBC. -/
def isb (o : Operand) (cost : Nat) (s : State) : Result :=
  rmwThenInstr o cost (fun t f => (t + 1, f))
    (fun r s => let q := sbcOp s.cpu.a r s.cpu.f; setFlags q.2 (setA q.1 s)) s

/-- ANC (R322): C is the new N. -/
def anc (v : Byte) (s : State) : Result :=
  let r := s.cpu.a &&& v
  finish 2 (setFlags { s.cpu.f with c := r.getLsbD 7 } (setA r s) |> setNZ r)

/-- ALR (R323). -/
def alr (v : Byte) (s : State) : Result :=
  let r := lsrOp (s.cpu.a &&& v) s.cpu.f
  finish 2 (setFlags r.2 (setA r.1 s))

/-- The result of ARR, `(C << 7) | (t >> 1)` (R324). -/
def arrResult (t : Byte) (c : Bool) : Byte := bitAt c 7 ||| (t >>> 1)

/-- ARR (R324): C is bit 6 of the result, V bit 6 xor bit 5. -/
def arr (v : Byte) (s : State) : Result :=
  let r := arrResult (s.cpu.a &&& v) s.cpu.f.c
  let f := { s.cpu.f.setNZ r with c := r.getLsbD 6, v := r.getLsbD 6 ^^ r.getLsbD 5 }
  finish 2 (setFlags f (setA r s))

/-- AXS (R325): the incoming C is not used and A is not written. -/
def axs (v : Byte) (s : State) : Result :=
  let t := s.cpu.a &&& s.cpu.x
  finish 2 (setFlags (compareOp t v s.cpu.f) (setX (t - v) s))

/-- ANE (R327), with the OPEN constant `ANE_MAGIC`. -/
def ane (v : Byte) (s : State) : Result :=
  let r := (s.cpu.a ||| Config.aneMagic) &&& s.cpu.x &&& v
  finish 2 (setNZ r (setA r s))

/-- LXA (R328), with the OPEN constant `LXA_MAGIC`. -/
def lxa (v : Byte) (s : State) : Result :=
  let r := (s.cpu.a ||| Config.lxaMagic) &&& v
  finish 2 (setNZ r (setX r (setA r s)))

/-- LAS (R329). -/
def las (o : Operand) (base : Nat) (s : State) : Result :=
  readInstr o base (fun m s => let v := m &&& s.cpu.sp; setNZ v (setSp v (setX v (setA v s)))) s

/-- The address an unstable store writes: a page cross replaces its high byte with the stored value (R330-R333). -/
def unstableAddr (e : Effective) (v : Byte) : Addr := if e.crossed then mkAddr v (loByte e.addr) else e.addr

/-- An unstable store of `reg & (H + 1)`, H the high byte of the address before indexing (R330-R333). -/
def unstableStore (o : Operand) (cost : Nat) (reg : Byte) (s : State) : Result :=
  let e := effAddr o s
  let v := reg &&& (hiByte e.1.base + 1)
  finish cost (memWrite (unstableAddr e.1 v) v e.2)

/-- SHA (R330). -/
def sha (o : Operand) (cost : Nat) (s : State) : Result := unstableStore o cost (s.cpu.a &&& s.cpu.x) s

/-- SHX (R331). -/
def shx (o : Operand) (cost : Nat) (s : State) : Result := unstableStore o cost s.cpu.x s

/-- SHY (R332). -/
def shy (o : Operand) (cost : Nat) (s : State) : Result := unstableStore o cost s.cpu.y s

/-- TAS (R333): S is written before the store. -/
def tas (o : Operand) (cost : Nat) (s : State) : Result :=
  unstableStore o cost (s.cpu.a &&& s.cpu.x) (setSp (s.cpu.a &&& s.cpu.x) s)

/-- $02 `JAM` (R312). -/
def execJam02 (s : State) : Result := jam s

/-- $12 `JAM` (R312). -/
def execJam12 (s : State) : Result := jam s

/-- $22 `JAM` (R312). -/
def execJam22 (s : State) : Result := jam s

/-- $32 `JAM` (R312). -/
def execJam32 (s : State) : Result := jam s

/-- $42 `JAM` (R312). -/
def execJam42 (s : State) : Result := jam s

/-- $52 `JAM` (R312). -/
def execJam52 (s : State) : Result := jam s

/-- $62 `JAM` (R312). -/
def execJam62 (s : State) : Result := jam s

/-- $72 `JAM` (R312). -/
def execJam72 (s : State) : Result := jam s

/-- $92 `JAM` (R312). -/
def execJam92 (s : State) : Result := jam s

/-- $B2 `JAM` (R312). -/
def execJamB2 (s : State) : Result := jam s

/-- $D2 `JAM` (R312). -/
def execJamD2 (s : State) : Result := jam s

/-- $F2 `JAM` (R312). -/
def execJamF2 (s : State) : Result := jam s

/-- $03 `SLO ($nn,X)` (R314). -/
def execSloIzx (z : Byte) (s : State) : Result := slo (.izx z) 8 s

/-- $07 `SLO $nn` (R314). -/
def execSloZp (z : Byte) (s : State) : Result := slo (.zp z) 5 s

/-- $0F `SLO $nnnn` (R314). -/
def execSloAbs (l h : Byte) (s : State) : Result := slo (.abs l h) 6 s

/-- $13 `SLO ($nn),Y` (R314). -/
def execSloIzy (z : Byte) (s : State) : Result := slo (.izy z) 8 s

/-- $17 `SLO $nn,X` (R314). -/
def execSloZpx (z : Byte) (s : State) : Result := slo (.zpx z) 6 s

/-- $1B `SLO $nnnn,Y` (R314). -/
def execSloAbsy (l h : Byte) (s : State) : Result := slo (.absy l h) 7 s

/-- $1F `SLO $nnnn,X` (R314). -/
def execSloAbsx (l h : Byte) (s : State) : Result := slo (.absx l h) 7 s

/-- $0B `ANC #$nn` (R322). -/
def execAncImm0B (v : Byte) (s : State) : Result := anc v s

/-- $2B `ANC #$nn` (R322). -/
def execAncImm2B (v : Byte) (s : State) : Result := anc v s

/-- $23 `RLA ($nn,X)` (R315). -/
def execRlaIzx (z : Byte) (s : State) : Result := rla (.izx z) 8 s

/-- $27 `RLA $nn` (R315). -/
def execRlaZp (z : Byte) (s : State) : Result := rla (.zp z) 5 s

/-- $2F `RLA $nnnn` (R315). -/
def execRlaAbs (l h : Byte) (s : State) : Result := rla (.abs l h) 6 s

/-- $33 `RLA ($nn),Y` (R315). -/
def execRlaIzy (z : Byte) (s : State) : Result := rla (.izy z) 8 s

/-- $37 `RLA $nn,X` (R315). -/
def execRlaZpx (z : Byte) (s : State) : Result := rla (.zpx z) 6 s

/-- $3B `RLA $nnnn,Y` (R315). -/
def execRlaAbsy (l h : Byte) (s : State) : Result := rla (.absy l h) 7 s

/-- $3F `RLA $nnnn,X` (R315). -/
def execRlaAbsx (l h : Byte) (s : State) : Result := rla (.absx l h) 7 s

/-- $43 `SRE ($nn,X)` (R316). -/
def execSreIzx (z : Byte) (s : State) : Result := sre (.izx z) 8 s

/-- $47 `SRE $nn` (R316). -/
def execSreZp (z : Byte) (s : State) : Result := sre (.zp z) 5 s

/-- $4F `SRE $nnnn` (R316). -/
def execSreAbs (l h : Byte) (s : State) : Result := sre (.abs l h) 6 s

/-- $53 `SRE ($nn),Y` (R316). -/
def execSreIzy (z : Byte) (s : State) : Result := sre (.izy z) 8 s

/-- $57 `SRE $nn,X` (R316). -/
def execSreZpx (z : Byte) (s : State) : Result := sre (.zpx z) 6 s

/-- $5B `SRE $nnnn,Y` (R316). -/
def execSreAbsy (l h : Byte) (s : State) : Result := sre (.absy l h) 7 s

/-- $5F `SRE $nnnn,X` (R316). -/
def execSreAbsx (l h : Byte) (s : State) : Result := sre (.absx l h) 7 s

/-- $4B `ALR #$nn` (R323). -/
def execAlrImm (v : Byte) (s : State) : Result := alr v s

/-- $63 `RRA ($nn,X)` (R317). -/
def execRraIzx (z : Byte) (s : State) : Result := rra (.izx z) 8 s

/-- $67 `RRA $nn` (R317). -/
def execRraZp (z : Byte) (s : State) : Result := rra (.zp z) 5 s

/-- $6F `RRA $nnnn` (R317). -/
def execRraAbs (l h : Byte) (s : State) : Result := rra (.abs l h) 6 s

/-- $73 `RRA ($nn),Y` (R317). -/
def execRraIzy (z : Byte) (s : State) : Result := rra (.izy z) 8 s

/-- $77 `RRA $nn,X` (R317). -/
def execRraZpx (z : Byte) (s : State) : Result := rra (.zpx z) 6 s

/-- $7B `RRA $nnnn,Y` (R317). -/
def execRraAbsy (l h : Byte) (s : State) : Result := rra (.absy l h) 7 s

/-- $7F `RRA $nnnn,X` (R317). -/
def execRraAbsx (l h : Byte) (s : State) : Result := rra (.absx l h) 7 s

/-- $6B `ARR #$nn` (R324). -/
def execArrImm (v : Byte) (s : State) : Result := arr v s

/-- $83 `SAX ($nn,X)` (R318). -/
def execSaxIzx (z : Byte) (s : State) : Result := sax (.izx z) 6 s

/-- $87 `SAX $nn` (R318). -/
def execSaxZp (z : Byte) (s : State) : Result := sax (.zp z) 3 s

/-- $8F `SAX $nnnn` (R318). -/
def execSaxAbs (l h : Byte) (s : State) : Result := sax (.abs l h) 4 s

/-- $97 `SAX $nn,Y` (R318). -/
def execSaxZpy (z : Byte) (s : State) : Result := sax (.zpy z) 4 s

/-- $8B `ANE #$nn` (R327). -/
def execAneImm (v : Byte) (s : State) : Result := ane v s

/-- $93 `SHA ($nn),Y` (R330). -/
def execShaIzy (z : Byte) (s : State) : Result := sha (.izy z) 6 s

/-- $9F `SHA $nnnn,Y` (R330). -/
def execShaAbsy (l h : Byte) (s : State) : Result := sha (.absy l h) 5 s

/-- $9B `TAS $nnnn,Y` (R333). -/
def execTasAbsy (l h : Byte) (s : State) : Result := tas (.absy l h) 5 s

/-- $9C `SHY $nnnn,X` (R332). -/
def execShyAbsx (l h : Byte) (s : State) : Result := shy (.absx l h) 5 s

/-- $9E `SHX $nnnn,Y` (R331). -/
def execShxAbsy (l h : Byte) (s : State) : Result := shx (.absy l h) 5 s

/-- $A3 `LAX ($nn,X)` (R319). -/
def execLaxIzx (z : Byte) (s : State) : Result := lax (.izx z) 6 s

/-- $A7 `LAX $nn` (R319). -/
def execLaxZp (z : Byte) (s : State) : Result := lax (.zp z) 3 s

/-- $AF `LAX $nnnn` (R319). -/
def execLaxAbs (l h : Byte) (s : State) : Result := lax (.abs l h) 4 s

/-- $B3 `LAX ($nn),Y` (R319). -/
def execLaxIzy (z : Byte) (s : State) : Result := lax (.izy z) 5 s

/-- $B7 `LAX $nn,Y` (R319). -/
def execLaxZpy (z : Byte) (s : State) : Result := lax (.zpy z) 4 s

/-- $BF `LAX $nnnn,Y` (R319). -/
def execLaxAbsy (l h : Byte) (s : State) : Result := lax (.absy l h) 4 s

/-- $AB `LXA #$nn` (R328). -/
def execLxaImm (v : Byte) (s : State) : Result := lxa v s

/-- $BB `LAS $nnnn,Y` (R329). -/
def execLasAbsy (l h : Byte) (s : State) : Result := las (.absy l h) 4 s

/-- $C3 `DCP ($nn,X)` (R320). -/
def execDcpIzx (z : Byte) (s : State) : Result := dcp (.izx z) 8 s

/-- $C7 `DCP $nn` (R320). -/
def execDcpZp (z : Byte) (s : State) : Result := dcp (.zp z) 5 s

/-- $CF `DCP $nnnn` (R320). -/
def execDcpAbs (l h : Byte) (s : State) : Result := dcp (.abs l h) 6 s

/-- $D3 `DCP ($nn),Y` (R320). -/
def execDcpIzy (z : Byte) (s : State) : Result := dcp (.izy z) 8 s

/-- $D7 `DCP $nn,X` (R320). -/
def execDcpZpx (z : Byte) (s : State) : Result := dcp (.zpx z) 6 s

/-- $DB `DCP $nnnn,Y` (R320). -/
def execDcpAbsy (l h : Byte) (s : State) : Result := dcp (.absy l h) 7 s

/-- $DF `DCP $nnnn,X` (R320). -/
def execDcpAbsx (l h : Byte) (s : State) : Result := dcp (.absx l h) 7 s

/-- $CB `AXS #$nn` (R325). -/
def execAxsImm (v : Byte) (s : State) : Result := axs v s

/-- $E3 `ISB ($nn,X)` (R321). -/
def execIsbIzx (z : Byte) (s : State) : Result := isb (.izx z) 8 s

/-- $E7 `ISB $nn` (R321). -/
def execIsbZp (z : Byte) (s : State) : Result := isb (.zp z) 5 s

/-- $EF `ISB $nnnn` (R321). -/
def execIsbAbs (l h : Byte) (s : State) : Result := isb (.abs l h) 6 s

/-- $F3 `ISB ($nn),Y` (R321). -/
def execIsbIzy (z : Byte) (s : State) : Result := isb (.izy z) 8 s

/-- $F7 `ISB $nn,X` (R321). -/
def execIsbZpx (z : Byte) (s : State) : Result := isb (.zpx z) 6 s

/-- $FB `ISB $nnnn,Y` (R321). -/
def execIsbAbsy (l h : Byte) (s : State) : Result := isb (.absy l h) 7 s

/-- $FF `ISB $nnnn,X` (R321). -/
def execIsbAbsx (l h : Byte) (s : State) : Result := isb (.absx l h) 7 s

end Sys2Proof.Machine
end

