-- ==== Sys2Proof/Machine/Dispatch.lean ====
section
/-! DEFINITION. One arm for each constructor of Instr: the instruction's meaning (60_exceptions.md R355). -/

namespace Sys2Proof.Machine

def exec (i : Instr) (s : State) : Host.Outcome State Fault Refusal :=
  match i with
  | .brk => Sys2Proof.Machine.execBrk s
  | .oraIzx z => Sys2Proof.Machine.execOraIzx z s
  | .jam02 => Sys2Proof.Machine.execJam02 s
  | .sloIzx z => Sys2Proof.Machine.execSloIzx z s
  | .nopZp04 z => Sys2Proof.Machine.execNopZp04 z s
  | .oraZp z => Sys2Proof.Machine.execOraZp z s
  | .aslZp z => Sys2Proof.Machine.execAslZp z s
  | .sloZp z => Sys2Proof.Machine.execSloZp z s
  | .php => Sys2Proof.Machine.execPhp s
  | .oraImm v => Sys2Proof.Machine.execOraImm v s
  | .aslAcc => Sys2Proof.Machine.execAslAcc s
  | .ancImm0B v => Sys2Proof.Machine.execAncImm0B v s
  | .nopAbs l h => Sys2Proof.Machine.execNopAbs l h s
  | .oraAbs l h => Sys2Proof.Machine.execOraAbs l h s
  | .aslAbs l h => Sys2Proof.Machine.execAslAbs l h s
  | .sloAbs l h => Sys2Proof.Machine.execSloAbs l h s
  | .bpl r => Sys2Proof.Machine.execBpl r s
  | .oraIzy z => Sys2Proof.Machine.execOraIzy z s
  | .jam12 => Sys2Proof.Machine.execJam12 s
  | .sloIzy z => Sys2Proof.Machine.execSloIzy z s
  | .nopZpx14 z => Sys2Proof.Machine.execNopZpx14 z s
  | .oraZpx z => Sys2Proof.Machine.execOraZpx z s
  | .aslZpx z => Sys2Proof.Machine.execAslZpx z s
  | .sloZpx z => Sys2Proof.Machine.execSloZpx z s
  | .clc => Sys2Proof.Machine.execClc s
  | .oraAbsy l h => Sys2Proof.Machine.execOraAbsy l h s
  | .nopImp1A => Sys2Proof.Machine.execNopImp1A s
  | .sloAbsy l h => Sys2Proof.Machine.execSloAbsy l h s
  | .nopAbsx1C l h => Sys2Proof.Machine.execNopAbsx1C l h s
  | .oraAbsx l h => Sys2Proof.Machine.execOraAbsx l h s
  | .aslAbsx l h => Sys2Proof.Machine.execAslAbsx l h s
  | .sloAbsx l h => Sys2Proof.Machine.execSloAbsx l h s
  | .jsrAbs l h => Sys2Proof.Machine.execJsrAbs l h s
  | .andIzx z => Sys2Proof.Machine.execAndIzx z s
  | .jam22 => Sys2Proof.Machine.execJam22 s
  | .rlaIzx z => Sys2Proof.Machine.execRlaIzx z s
  | .bitZp z => Sys2Proof.Machine.execBitZp z s
  | .andZp z => Sys2Proof.Machine.execAndZp z s
  | .rolZp z => Sys2Proof.Machine.execRolZp z s
  | .rlaZp z => Sys2Proof.Machine.execRlaZp z s
  | .plp => Sys2Proof.Machine.execPlp s
  | .andImm v => Sys2Proof.Machine.execAndImm v s
  | .rolAcc => Sys2Proof.Machine.execRolAcc s
  | .ancImm2B v => Sys2Proof.Machine.execAncImm2B v s
  | .bitAbs l h => Sys2Proof.Machine.execBitAbs l h s
  | .andAbs l h => Sys2Proof.Machine.execAndAbs l h s
  | .rolAbs l h => Sys2Proof.Machine.execRolAbs l h s
  | .rlaAbs l h => Sys2Proof.Machine.execRlaAbs l h s
  | .bmi r => Sys2Proof.Machine.execBmi r s
  | .andIzy z => Sys2Proof.Machine.execAndIzy z s
  | .jam32 => Sys2Proof.Machine.execJam32 s
  | .rlaIzy z => Sys2Proof.Machine.execRlaIzy z s
  | .nopZpx34 z => Sys2Proof.Machine.execNopZpx34 z s
  | .andZpx z => Sys2Proof.Machine.execAndZpx z s
  | .rolZpx z => Sys2Proof.Machine.execRolZpx z s
  | .rlaZpx z => Sys2Proof.Machine.execRlaZpx z s
  | .sec => Sys2Proof.Machine.execSec s
  | .andAbsy l h => Sys2Proof.Machine.execAndAbsy l h s
  | .nopImp3A => Sys2Proof.Machine.execNopImp3A s
  | .rlaAbsy l h => Sys2Proof.Machine.execRlaAbsy l h s
  | .nopAbsx3C l h => Sys2Proof.Machine.execNopAbsx3C l h s
  | .andAbsx l h => Sys2Proof.Machine.execAndAbsx l h s
  | .rolAbsx l h => Sys2Proof.Machine.execRolAbsx l h s
  | .rlaAbsx l h => Sys2Proof.Machine.execRlaAbsx l h s
  | .rti => Sys2Proof.Machine.execRti s
  | .eorIzx z => Sys2Proof.Machine.execEorIzx z s
  | .jam42 => Sys2Proof.Machine.execJam42 s
  | .sreIzx z => Sys2Proof.Machine.execSreIzx z s
  | .nopZp44 z => Sys2Proof.Machine.execNopZp44 z s
  | .eorZp z => Sys2Proof.Machine.execEorZp z s
  | .lsrZp z => Sys2Proof.Machine.execLsrZp z s
  | .sreZp z => Sys2Proof.Machine.execSreZp z s
  | .pha => Sys2Proof.Machine.execPha s
  | .eorImm v => Sys2Proof.Machine.execEorImm v s
  | .lsrAcc => Sys2Proof.Machine.execLsrAcc s
  | .alrImm v => Sys2Proof.Machine.execAlrImm v s
  | .jmpAbs l h => Sys2Proof.Machine.execJmpAbs l h s
  | .eorAbs l h => Sys2Proof.Machine.execEorAbs l h s
  | .lsrAbs l h => Sys2Proof.Machine.execLsrAbs l h s
  | .sreAbs l h => Sys2Proof.Machine.execSreAbs l h s
  | .bvc r => Sys2Proof.Machine.execBvc r s
  | .eorIzy z => Sys2Proof.Machine.execEorIzy z s
  | .jam52 => Sys2Proof.Machine.execJam52 s
  | .sreIzy z => Sys2Proof.Machine.execSreIzy z s
  | .nopZpx54 z => Sys2Proof.Machine.execNopZpx54 z s
  | .eorZpx z => Sys2Proof.Machine.execEorZpx z s
  | .lsrZpx z => Sys2Proof.Machine.execLsrZpx z s
  | .sreZpx z => Sys2Proof.Machine.execSreZpx z s
  | .cli => Sys2Proof.Machine.execCli s
  | .eorAbsy l h => Sys2Proof.Machine.execEorAbsy l h s
  | .nopImp5A => Sys2Proof.Machine.execNopImp5A s
  | .sreAbsy l h => Sys2Proof.Machine.execSreAbsy l h s
  | .nopAbsx5C l h => Sys2Proof.Machine.execNopAbsx5C l h s
  | .eorAbsx l h => Sys2Proof.Machine.execEorAbsx l h s
  | .lsrAbsx l h => Sys2Proof.Machine.execLsrAbsx l h s
  | .sreAbsx l h => Sys2Proof.Machine.execSreAbsx l h s
  | .rts => Sys2Proof.Machine.execRts s
  | .adcIzx z => Sys2Proof.Machine.execAdcIzx z s
  | .jam62 => Sys2Proof.Machine.execJam62 s
  | .rraIzx z => Sys2Proof.Machine.execRraIzx z s
  | .nopZp64 z => Sys2Proof.Machine.execNopZp64 z s
  | .adcZp z => Sys2Proof.Machine.execAdcZp z s
  | .rorZp z => Sys2Proof.Machine.execRorZp z s
  | .rraZp z => Sys2Proof.Machine.execRraZp z s
  | .pla => Sys2Proof.Machine.execPla s
  | .adcImm v => Sys2Proof.Machine.execAdcImm v s
  | .rorAcc => Sys2Proof.Machine.execRorAcc s
  | .arrImm v => Sys2Proof.Machine.execArrImm v s
  | .jmpInd l h => Sys2Proof.Machine.execJmpInd l h s
  | .adcAbs l h => Sys2Proof.Machine.execAdcAbs l h s
  | .rorAbs l h => Sys2Proof.Machine.execRorAbs l h s
  | .rraAbs l h => Sys2Proof.Machine.execRraAbs l h s
  | .bvs r => Sys2Proof.Machine.execBvs r s
  | .adcIzy z => Sys2Proof.Machine.execAdcIzy z s
  | .jam72 => Sys2Proof.Machine.execJam72 s
  | .rraIzy z => Sys2Proof.Machine.execRraIzy z s
  | .nopZpx74 z => Sys2Proof.Machine.execNopZpx74 z s
  | .adcZpx z => Sys2Proof.Machine.execAdcZpx z s
  | .rorZpx z => Sys2Proof.Machine.execRorZpx z s
  | .rraZpx z => Sys2Proof.Machine.execRraZpx z s
  | .sei => Sys2Proof.Machine.execSei s
  | .adcAbsy l h => Sys2Proof.Machine.execAdcAbsy l h s
  | .nopImp7A => Sys2Proof.Machine.execNopImp7A s
  | .rraAbsy l h => Sys2Proof.Machine.execRraAbsy l h s
  | .nopAbsx7C l h => Sys2Proof.Machine.execNopAbsx7C l h s
  | .adcAbsx l h => Sys2Proof.Machine.execAdcAbsx l h s
  | .rorAbsx l h => Sys2Proof.Machine.execRorAbsx l h s
  | .rraAbsx l h => Sys2Proof.Machine.execRraAbsx l h s
  | .nopImm80 v => Sys2Proof.Machine.execNopImm80 v s
  | .staIzx z => Sys2Proof.Machine.execStaIzx z s
  | .nopImm82 v => Sys2Proof.Machine.execNopImm82 v s
  | .saxIzx z => Sys2Proof.Machine.execSaxIzx z s
  | .styZp z => Sys2Proof.Machine.execStyZp z s
  | .staZp z => Sys2Proof.Machine.execStaZp z s
  | .stxZp z => Sys2Proof.Machine.execStxZp z s
  | .saxZp z => Sys2Proof.Machine.execSaxZp z s
  | .dey => Sys2Proof.Machine.execDey s
  | .nopImm89 v => Sys2Proof.Machine.execNopImm89 v s
  | .txa => Sys2Proof.Machine.execTxa s
  | .aneImm v => Sys2Proof.Machine.execAneImm v s
  | .styAbs l h => Sys2Proof.Machine.execStyAbs l h s
  | .staAbs l h => Sys2Proof.Machine.execStaAbs l h s
  | .stxAbs l h => Sys2Proof.Machine.execStxAbs l h s
  | .saxAbs l h => Sys2Proof.Machine.execSaxAbs l h s
  | .bcc r => Sys2Proof.Machine.execBcc r s
  | .staIzy z => Sys2Proof.Machine.execStaIzy z s
  | .jam92 => Sys2Proof.Machine.execJam92 s
  | .shaIzy z => Sys2Proof.Machine.execShaIzy z s
  | .styZpx z => Sys2Proof.Machine.execStyZpx z s
  | .staZpx z => Sys2Proof.Machine.execStaZpx z s
  | .stxZpy z => Sys2Proof.Machine.execStxZpy z s
  | .saxZpy z => Sys2Proof.Machine.execSaxZpy z s
  | .tya => Sys2Proof.Machine.execTya s
  | .staAbsy l h => Sys2Proof.Machine.execStaAbsy l h s
  | .txs => Sys2Proof.Machine.execTxs s
  | .tasAbsy l h => Sys2Proof.Machine.execTasAbsy l h s
  | .shyAbsx l h => Sys2Proof.Machine.execShyAbsx l h s
  | .staAbsx l h => Sys2Proof.Machine.execStaAbsx l h s
  | .shxAbsy l h => Sys2Proof.Machine.execShxAbsy l h s
  | .shaAbsy l h => Sys2Proof.Machine.execShaAbsy l h s
  | .ldyImm v => Sys2Proof.Machine.execLdyImm v s
  | .ldaIzx z => Sys2Proof.Machine.execLdaIzx z s
  | .ldxImm v => Sys2Proof.Machine.execLdxImm v s
  | .laxIzx z => Sys2Proof.Machine.execLaxIzx z s
  | .ldyZp z => Sys2Proof.Machine.execLdyZp z s
  | .ldaZp z => Sys2Proof.Machine.execLdaZp z s
  | .ldxZp z => Sys2Proof.Machine.execLdxZp z s
  | .laxZp z => Sys2Proof.Machine.execLaxZp z s
  | .tay => Sys2Proof.Machine.execTay s
  | .ldaImm v => Sys2Proof.Machine.execLdaImm v s
  | .tax => Sys2Proof.Machine.execTax s
  | .lxaImm v => Sys2Proof.Machine.execLxaImm v s
  | .ldyAbs l h => Sys2Proof.Machine.execLdyAbs l h s
  | .ldaAbs l h => Sys2Proof.Machine.execLdaAbs l h s
  | .ldxAbs l h => Sys2Proof.Machine.execLdxAbs l h s
  | .laxAbs l h => Sys2Proof.Machine.execLaxAbs l h s
  | .bcs r => Sys2Proof.Machine.execBcs r s
  | .ldaIzy z => Sys2Proof.Machine.execLdaIzy z s
  | .jamB2 => Sys2Proof.Machine.execJamB2 s
  | .laxIzy z => Sys2Proof.Machine.execLaxIzy z s
  | .ldyZpx z => Sys2Proof.Machine.execLdyZpx z s
  | .ldaZpx z => Sys2Proof.Machine.execLdaZpx z s
  | .ldxZpy z => Sys2Proof.Machine.execLdxZpy z s
  | .laxZpy z => Sys2Proof.Machine.execLaxZpy z s
  | .clv => Sys2Proof.Machine.execClv s
  | .ldaAbsy l h => Sys2Proof.Machine.execLdaAbsy l h s
  | .tsx => Sys2Proof.Machine.execTsx s
  | .lasAbsy l h => Sys2Proof.Machine.execLasAbsy l h s
  | .ldyAbsx l h => Sys2Proof.Machine.execLdyAbsx l h s
  | .ldaAbsx l h => Sys2Proof.Machine.execLdaAbsx l h s
  | .ldxAbsy l h => Sys2Proof.Machine.execLdxAbsy l h s
  | .laxAbsy l h => Sys2Proof.Machine.execLaxAbsy l h s
  | .cpyImm v => Sys2Proof.Machine.execCpyImm v s
  | .cmpIzx z => Sys2Proof.Machine.execCmpIzx z s
  | .nopImmC2 v => Sys2Proof.Machine.execNopImmC2 v s
  | .dcpIzx z => Sys2Proof.Machine.execDcpIzx z s
  | .cpyZp z => Sys2Proof.Machine.execCpyZp z s
  | .cmpZp z => Sys2Proof.Machine.execCmpZp z s
  | .decZp z => Sys2Proof.Machine.execDecZp z s
  | .dcpZp z => Sys2Proof.Machine.execDcpZp z s
  | .iny => Sys2Proof.Machine.execIny s
  | .cmpImm v => Sys2Proof.Machine.execCmpImm v s
  | .dex => Sys2Proof.Machine.execDex s
  | .axsImm v => Sys2Proof.Machine.execAxsImm v s
  | .cpyAbs l h => Sys2Proof.Machine.execCpyAbs l h s
  | .cmpAbs l h => Sys2Proof.Machine.execCmpAbs l h s
  | .decAbs l h => Sys2Proof.Machine.execDecAbs l h s
  | .dcpAbs l h => Sys2Proof.Machine.execDcpAbs l h s
  | .bne r => Sys2Proof.Machine.execBne r s
  | .cmpIzy z => Sys2Proof.Machine.execCmpIzy z s
  | .jamD2 => Sys2Proof.Machine.execJamD2 s
  | .dcpIzy z => Sys2Proof.Machine.execDcpIzy z s
  | .nopZpxD4 z => Sys2Proof.Machine.execNopZpxD4 z s
  | .cmpZpx z => Sys2Proof.Machine.execCmpZpx z s
  | .decZpx z => Sys2Proof.Machine.execDecZpx z s
  | .dcpZpx z => Sys2Proof.Machine.execDcpZpx z s
  | .cld => Sys2Proof.Machine.execCld s
  | .cmpAbsy l h => Sys2Proof.Machine.execCmpAbsy l h s
  | .nopImpDA => Sys2Proof.Machine.execNopImpDA s
  | .dcpAbsy l h => Sys2Proof.Machine.execDcpAbsy l h s
  | .nopAbsxDC l h => Sys2Proof.Machine.execNopAbsxDC l h s
  | .cmpAbsx l h => Sys2Proof.Machine.execCmpAbsx l h s
  | .decAbsx l h => Sys2Proof.Machine.execDecAbsx l h s
  | .dcpAbsx l h => Sys2Proof.Machine.execDcpAbsx l h s
  | .cpxImm v => Sys2Proof.Machine.execCpxImm v s
  | .sbcIzx z => Sys2Proof.Machine.execSbcIzx z s
  | .nopImmE2 v => Sys2Proof.Machine.execNopImmE2 v s
  | .isbIzx z => Sys2Proof.Machine.execIsbIzx z s
  | .cpxZp z => Sys2Proof.Machine.execCpxZp z s
  | .sbcZp z => Sys2Proof.Machine.execSbcZp z s
  | .incZp z => Sys2Proof.Machine.execIncZp z s
  | .isbZp z => Sys2Proof.Machine.execIsbZp z s
  | .inx => Sys2Proof.Machine.execInx s
  | .sbcImm v => Sys2Proof.Machine.execSbcImm v s
  | .nop => Sys2Proof.Machine.execNop s
  | .sbcImmEB v => Sys2Proof.Machine.execSbcImmEB v s
  | .cpxAbs l h => Sys2Proof.Machine.execCpxAbs l h s
  | .sbcAbs l h => Sys2Proof.Machine.execSbcAbs l h s
  | .incAbs l h => Sys2Proof.Machine.execIncAbs l h s
  | .isbAbs l h => Sys2Proof.Machine.execIsbAbs l h s
  | .beq r => Sys2Proof.Machine.execBeq r s
  | .sbcIzy z => Sys2Proof.Machine.execSbcIzy z s
  | .jamF2 => Sys2Proof.Machine.execJamF2 s
  | .isbIzy z => Sys2Proof.Machine.execIsbIzy z s
  | .nopZpxF4 z => Sys2Proof.Machine.execNopZpxF4 z s
  | .sbcZpx z => Sys2Proof.Machine.execSbcZpx z s
  | .incZpx z => Sys2Proof.Machine.execIncZpx z s
  | .isbZpx z => Sys2Proof.Machine.execIsbZpx z s
  | .sed => Sys2Proof.Machine.execSed s
  | .sbcAbsy l h => Sys2Proof.Machine.execSbcAbsy l h s
  | .nopImpFA => Sys2Proof.Machine.execNopImpFA s
  | .isbAbsy l h => Sys2Proof.Machine.execIsbAbsy l h s
  | .nopAbsxFC l h => Sys2Proof.Machine.execNopAbsxFC l h s
  | .sbcAbsx l h => Sys2Proof.Machine.execSbcAbsx l h s
  | .incAbsx l h => Sys2Proof.Machine.execIncAbsx l h s
  | .isbAbsx l h => Sys2Proof.Machine.execIsbAbsx l h s

end Sys2Proof.Machine
end

