-- ==== Sys2Proof/Machine/Render.lean ====
section
/-! DEFINITION. The scanline state machine and renderer, sprite evaluation and the sprite-0 strike (61_ppu.md R403-R405, R425-R442). -/

namespace Sys2Proof.Machine

/-! ### Background -/

/-- The 2-bit pixel at column `c` of a row's two bit-planes (R403). -/
def patternPixel (lo hi : Byte) (c : Nat) : Nat :=
  (if hi.getLsbD (7 - c) then 2 else 0) + (if lo.getLsbD (7 - c) then 1 else 0)

/-- The pixel at column `c` of row `r` of a tile in a pattern table (R403). -/
def tilePixel (table tile r c : Nat) (s : State) : Nat :=
  let a := table + 16 * tile + r
  patternPixel (ppuRead (BitVec.ofNat 14 a) s) (ppuRead (BitVec.ofNat 14 (a + 8)) s) c

/-- The address of the tile number at coarse position (cx, cy) of nametable `n` (R404). -/
def nametableAddr (n cx cy : Nat) : PpuAddr := BitVec.ofNat 14 (0x2000 + 1024 * n + 32 * cy + cx)

/-- The address of the attribute byte covering that position (R404). -/
def attributeAddr (n cx cy : Nat) : PpuAddr := BitVec.ofNat 14 (0x23C0 + 1024 * n + 8 * (cy / 4) + cx / 4)

/-- The 2-bit palette number of that position in its attribute byte (R404). -/
def attributePalette (attr : Byte) (cx cy : Nat) : Nat := attr.toNat / 2 ^ (4 * (cy / 2 % 2) + 2 * (cx / 2 % 2)) % 4

/-- A background pixel: its 2-bit value and its palette number. -/
structure BgPixel where
  pix : Nat
  pal : Nat
deriving DecidableEq, Repr

/-- The background fetch for column `x` of a visible line, from `v` as R428 left it (R429). -/
def bgFetch (s : State) (x : Nat) : BgPixel :=
  let v := s.ppu.v
  let col := s.ppu.fineX.toNat + x
  let cx0 := getField v 0 5 + col / 8
  let n := getField v 10 2 ^^^ (if 32 ≤ cx0 then 1 else 0)
  let cx := cx0 % 32
  let cy := getField v 5 5
  let tile := (ppuRead (nametableAddr n cx cy) s).toNat
  let attr := ppuRead (attributeAddr n cx cy) s
  { pix := tilePixel (if s.ppu.ctrl0.getLsbD 4 then 0x1000 else 0) tile (getField v 12 3) (col % 8) s
    pal := attributePalette attr cx cy }

/-- `BgOpaque(x)` (R430). -/
def bgOpaque (s : State) (x : Nat) : Bool :=
  s.ppu.ctrl1.getLsbD 3 && (decide (8 ≤ x) || s.ppu.ctrl1.getLsbD 1) && decide ((bgFetch s x).pix ≠ 0)

/-- `BgColour(x)` (R430). -/
def bgColour (s : State) (x : Nat) : Byte :=
  if bgOpaque s x then s.mem.pal.read (4 * (bgFetch s x).pal + (bgFetch s x).pix) else s.mem.pal.read 0

/-! ### Sprites -/

/-- Byte `k` of OAM entry `i` (R444). -/
def oamByte (s : State) (i k : Nat) : Byte := s.mem.oam.read (4 * i + k)

/-- The sprite height: 16 if ctrl0[5], else 8 (R431). -/
def spriteHeight (s : State) : Nat := if s.ppu.ctrl0.getLsbD 5 then 16 else 8

/-- Is sprite `i` in range on line `y` (R431)? -/
def spriteInRange (s : State) (y i : Nat) : Bool :=
  let top := (oamByte s i 0).toNat + 1
  decide (top ≤ y) && decide (y - top < spriteHeight s)

/-- The in-range sprites of line `y`, in OAM order (R431). -/
def spritesInRange (s : State) (y : Nat) : List Nat := (List.range 64).filter (spriteInRange s y)

/-- The sprites drawn on line `y`: the first 8 in range (R431). -/
def selectedSprites (s : State) (y : Nat) : List Nat := (spritesInRange s y).take 8

/-- The pixel of sprite `i` at column `x` of line `y`, 0 where it has none (R432). -/
def spritePixel (s : State) (y i x : Nat) : Nat :=
  let left := (oamByte s i 3).toNat
  if x < left ∨ left + 7 < x then 0
  else
    let at_ := oamByte s i 2
    let tile := (oamByte s i 1).toNat
    let h := spriteHeight s
    let r0 := y - ((oamByte s i 0).toNat + 1)
    let r := if at_.getLsbD 7 then h - 1 - r0 else r0
    let c := if at_.getLsbD 6 then 7 - (x - left) else x - left
    if h = 8 then tilePixel (if s.ppu.ctrl0.getLsbD 3 then 0x1000 else 0) tile r c s
    else tilePixel (tile % 2 * 0x1000) (tile / 2 * 2 + (if 8 ≤ r then 1 else 0)) (r % 8) c s

/-- `SprOpaque(i, x)` (R433). -/
def spriteOpaque (s : State) (y x i : Nat) : Bool :=
  s.ppu.ctrl1.getLsbD 4 && (decide (8 ≤ x) || s.ppu.ctrl1.getLsbD 2) && decide (spritePixel s y i x ≠ 0)

/-- `front(x)`: the lowest-numbered selected sprite that is opaque at `x` (R433). -/
def frontSprite (s : State) (y x : Nat) : Option Nat := (selectedSprites s y).find? (spriteOpaque s y x)

/-- `Spr0Opaque(x)` (R433). -/
def sprite0Opaque (s : State) (y x : Nat) : Bool := (selectedSprites s y).contains 0 && spriteOpaque s y x 0

/-! ### Pixels -/

/-- The pixel byte `{background-transparent, opaque-sprite-pixel, colour[5:0]}` (R441). -/
def pixelByte (transparent sprite : Bool) (colour : Byte) : Byte :=
  bitAt transparent 7 ||| bitAt sprite 6 ||| (colour &&& 0x3F)

/-- The pixel at column `x` of a visible line with rendering enabled (R434). -/
def composedPixel (s : State) (y x : Nat) : Byte :=
  match frontSprite s y x with
  | some i =>
    if !(oamByte s i 2).getLsbD 5 || !bgOpaque s x then
      pixelByte (!bgOpaque s x) true
        (s.mem.pal.read (16 + 4 * ((oamByte s i 2).toNat % 4) + spritePixel s y i x))
    else pixelByte (!bgOpaque s x) false (bgColour s x)
  | none => pixelByte (!bgOpaque s x) false (bgColour s x)

/-- Put a row in the host's rows, kept in the order of the lines (R442). -/
def putRow : List (Nat × List Byte) → Nat → List Byte → List (Nat × List Byte)
  | [], y, row => [(y, row)]
  | (k, old) :: rest, y, row =>
    if y < k then (y, row) :: (k, old) :: rest
    else if y = k then (y, row) :: rest
    else (k, old) :: putRow rest y row

/-- Write the row of line `y` when the frame is drawn (R438, R442). -/
def writeRow (draw : Bool) (y : Nat) (row : List Byte) (s : State) : State :=
  if draw then { s with host := { s.host with screen := putRow s.host.screen y row } } else s

/-! ### The scanline state machine -/

/-- `v` at the start of a visible line (R428). -/
def lineStartV (line : Nat) (v t : BitVec 15) : BitVec 15 :=
  if line = 0 then t else putField (putField v 10 1 (getField t 10 1)) 0 5 (getField t 0 5)

/-- The first column of an overlap of sprite 0 with the background (R426): x = 255 does not count. -/
def firstOverlap (s : State) (y : Nat) : Option Nat :=
  (List.range 255).find? (fun x => sprite0Opaque s y x && bgOpaque s x)

/-- Strike detection on a visible line (R426). -/
def detectStrike (y : Nat) (s : State) : State :=
  if !s.ppu.strikeFlag && s.ppu.ctrl1.getLsbD 3 && s.ppu.ctrl1.getLsbD 4 then
    match firstOverlap s y with
    | some x => { s with ppu := { s.ppu with strikeFlag := true, strikeCycle := s.run.cycles + x / 3 } }
    | none => s
  else s

/-- A 9th in-range sprite sets the overflow flag (R431). -/
def detectOverflow (y : Nat) (s : State) : State :=
  if 8 < (spritesInRange s y).length then { s with ppu := { s.ppu with overflow := true } } else s

/-- A visible line with rendering enabled (R425): its pixels are those of the state after R428. -/
def renderLine (line : Nat) (draw : Bool) (s : State) : State :=
  let s1 := { s with ppu := { s.ppu with v := lineStartV line s.ppu.v s.ppu.t } }
  writeRow draw line ((List.range 256).map (composedPixel s1 line)) (detectOverflow line (detectStrike line s1))

/-- A visible line with rendering disabled (R437): the backdrop. -/
def blankLine (line : Nat) (draw : Bool) (s : State) : State :=
  writeRow draw line (List.replicate 256 (pixelByte true false (s.mem.pal.read 0))) s

/-- `ppu_scanline(line)` (R425). -/
def ppuScanline (line : Nat) (draw : Bool) (s : State) : State :=
  if line < 240 then (if renderingEnabled s then renderLine line draw s else blankLine line draw s)
  else if line = 241 then { s with ppu := { s.ppu with vblank := true, vramAccessible := true } }
  else if line = 261 then
    { s with ppu := { s.ppu with vblank := false, strikeFlag := false, overflow := false, vramAccessible := false } }
  else s

/-- The fine-Y step (R435). -/
def fineYStep (v : BitVec 15) : BitVec 15 :=
  if getField v 12 3 < 7 then putField v 12 3 (getField v 12 3 + 1)
  else
    let v0 := putField v 12 3 0
    if getField v 5 5 = 29 then putField v0 5 5 0 ^^^ 0x0800
    else if getField v 5 5 = 31 then putField v0 5 5 0
    else putField v0 5 5 (getField v 5 5 + 1)

/-- `ppu_endscanline(line)` (R425, R435). -/
def ppuEndScanline (line : Nat) (s : State) : State :=
  if line < 240 ∧ renderingEnabled s then { s with ppu := { s.ppu with v := fineYStep s.ppu.v } } else s

end Sys2Proof.Machine
end

