-- ==== Sys2Proof/Machine/Frame.lean ====
section
/-! DEFINITION. The entry of a slice (60_exceptions.md R350), the frame IRQ timer (64_frame_sync.md R560), mapper 4's hblank callback
(63_mapper.md R532) and the frame loop (64_frame_sync.md R550), cut at the points where the CPU runs instructions. -/

namespace Sys2Proof.Machine

/-! ### The entry of a slice -/

/-- The part of `execute(n)` that pays owed burn (R350). -/
def payBurn (s : State) : State :=
  if 0 < s.run.burn ∧ 0 < s.run.remaining then
    let k := min s.run.burn s.run.remaining.toNat
    charge k { s with run := { s.run with burn := s.run.burn - k } }
  else s

/-- The part of `execute(n)` that takes a pending IRQ (R350, R362). -/
def takePendingIrq (s : State) : State :=
  if s.run.intPending && !s.cpu.f.i && !s.run.jammed && decide (0 < s.run.remaining) then
    charge intCycles (interrupt irqVector { s with run := { s.run with intPending := false } })
  else s

/-- `execute(n)` up to its loop (R350): burn first, then the pending IRQ (D11). A refused CPU does nothing. -/
def enterExecute (n : Int) (s : State) : State :=
  if s.run.refused then s else takePendingIrq (payBurn { s with run := { s.run with remaining := n } })

/-- Begin a slice of the frame loop with a budget of `n` cycles; `start` is `cycles` before it. -/
def beginSlice (k : SliceKind) (n : Int) (s : State) : State :=
  let s' := enterExecute n s
  { s' with orch := { s'.orch with phase := .slice k s.run.cycles } }

/-- Is the loop of `execute` still running (R350)? -/
def sliceRunning (s : State) : Bool := decide (0 < s.run.remaining) && !s.run.refused

/-! ### The FIQ timer and the mapper's callbacks -/

/-- Is the frame IRQ masked by the last $4017 write (R560)? -/
def fiqMasked (s : State) : Bool := decide (s.fiq.state &&& 0xC0 ≠ 0)

/-- `FiqTick(e)` (R560). -/
def fiqTick (e : Nat) (s : State) : State :=
  let c := s.fiq.cycles - e
  if c ≤ 0 then
    let s1 := { s with fiq := { s.fiq with cycles := c + (fiqPeriod : Int) } }
    if fiqMasked s then s1 else irq { s1 with fiq := { s1.fiq with occurred := true } }
  else { s with fiq := { s.fiq with cycles := c } }

/-- The end of a slice, after its `FiqTick` (R560). Under `atWrite`, which a run from `State.reset` has, nothing but the model's mark
changes, and R560 is followed as it stands. Under `atSliceEnd` a $4017 write in the slice leaves a whole period from here, the words of
70_reset_and_hazards.md R612 read to the cycle (log 36). -/
def settleFiqRestart (s : State) : State :=
  let c := if s.fiq.restarted && decide (s.fiqRestart = .atSliceEnd) then (fiqPeriod : Int) else s.fiq.cycles
  { s with fiq := { s.fiq with cycles := c, restarted := false } }

/-- MMC3's `hblank(in_vblank)` (63_mapper.md R532): the counter fires once, from 0 to -1. -/
def mmc3Hblank (s : State) : State :=
  if !s.orch.inVblank && renderingEnabled s then
    let s1 := { s with mmc3 := { s.mmc3 with irqCounter := s.mmc3.irqCounter - 1 } }
    if s.mmc3.irqCounter = 0 ∧ s.mmc3.irqEnabled then irq s1 else s1
  else s

/-- The active mapper's hblank callback, if it has one (63_mapper.md R511, R512, R521). -/
def mapperHblank (s : State) : State := if s.cart.mapper = 4 then mmc3Hblank s else s

/-- The active mapper's vblank callback: mappers 0, 1 and 4 have none (63_mapper.md R511, R512, R534). -/
def mapperVblank (s : State) : State := s

/-! ### The frame loop -/

/-- The hblank callback and the start of a line's own slice (R550, R552 steps 3 and 4). -/
def startLineSlice (s : State) : State :=
  let s1 := mapperHblank s
  let s2 := { s1 with orch := { s1.orch with acc := s1.orch.acc + lineTwelfths } }
  beginSlice .line (s2.orch.acc / 12) s2

/-- The start of a scanline, or the end of the frame (R550): the PPU's line start, then the line's first slice. -/
def startLine (s : State) : State :=
  if s.orch.scanline = 262 then { s with orch := { s.orch with scanline := 0, phase := .idle } }
  else
    let s1 := ppuScanline s.orch.scanline s.orch.draw s
    if s.orch.scanline = 241 then beginSlice .nmiDelay nmiDelayCycles s1 else startLineSlice s1

/-- What a slice cost: the accumulator and the FIQ timer take it (R550, 70_reset_and_hazards.md R612). -/
def settleSlice (start : Nat) (s : State) : State :=
  let e := s.run.cycles - start
  settleFiqRestart (fiqTick e { s with orch := { s.orch with acc := s.orch.acc - 12 * (e : Int) } })

/-- The end of the 7-cycle slice of line 241 (R552 step 2): NMI if enabled, the vblank callback, `in_vblank`; then the line's slice. -/
def endNmiDelay (start : Nat) (s : State) : State :=
  let s1 := settleSlice start s
  let s2 := if s1.ppu.ctrl0.getLsbD 7 then nmi s1 else s1
  let s3 := mapperVblank s2
  startLineSlice { s3 with orch := { s3.orch with inVblank := true } }

/-- The end of a line's slice (R552 steps 5 and 6): FIQ, the PPU's line end, the next line. -/
def endLineSlice (start : Nat) (s : State) : State :=
  let s1 := settleSlice start s
  let s2 := ppuEndScanline s1.orch.scanline s1
  { s2 with orch := { s2.orch with scanline := s2.orch.scanline + 1, phase := .lineStart } }

/-- The end of a slice. -/
def endSlice (k : SliceKind) (start : Nat) (s : State) : State :=
  match k with
  | .nmiDelay => endNmiDelay start s
  | .line => endLineSlice start s

/-- The start of `renderframe(DRAW_FLAG)` (R550). -/
def beginFrame (draw : Bool) (s : State) : State :=
  { s with orch := { s.orch with inVblank := false, phase := .lineStart, draw := draw } }

end Sys2Proof.Machine
end

