-- ==== Sys2Proof/Machine/RunControl.lean ====
section
/-! DEFINITION. Fetching an instruction (30_encoding.md R173), one CPU step (60_exceptions.md R355), the host's calls (64_frame_sync.md
R576) and the machine's step over them. -/

namespace Sys2Proof.Machine

/-! ### Fetch -/

/-- Read the byte at pc through the data decode and advance pc (R173, D15). -/
def fetchByte (s : State) : Byte × State :=
  let r := memRead s.cpu.pc s
  (r.1, setPc (s.cpu.pc + 1) r.2)

/-- Fetch `n` operand bytes, at increasing pc (R173). -/
def fetchBytes : Nat → State → List Byte × State
  | 0, s => ([], s)
  | n + 1, s =>
    let b := fetchByte s
    let r := fetchBytes n b.2
    (b.1 :: r.1, r.2)

/-- Fetch the operand bytes that an opcode needs and decode it (R173, R190). -/
def fetchOperands (op : Byte) (s : State) : Instr × State :=
  let r := fetchBytes (operandCount op) s
  (decodeOp op (r.1.getD 0 0) (r.1.getD 1 0), r.2)

/-- Does `UNDOC_POLICY` refuse an opcode (45_jam_undocumented.md R310)? -/
def policyRefuses (op : Byte) (s : State) : Bool := decide (s.undocPolicy = .refuse) && isUndocumented op

/-- `step()` of the CPU (R355): fetch, refuse by policy, or fetch the operands and run the instruction. A jammed CPU fetches again and
jams again, whatever byte the fetch now reads: nothing but a reset ends a JAM (R351). -/
def cpuStep (s : State) : Result :=
  let f := fetchByte s
  if s.run.jammed then .next (jamCpu f.2)
  else if policyRefuses f.1 f.2 then .next (refuseOpcode f.2)
  else
    let i := fetchOperands f.1 f.2
    exec i.1 i.2

/-! ### Host calls -/

/-- Run a host call (64_frame_sync.md R576). Every call but `insert` needs a cartridge (R581). -/
def runCall (call : HostCall) (s : State) : Result :=
  match call with
  | .insert image battery => .next (insertCartridge image battery s)
  | .eject => if s.cart.attached then .next (ejectCartridge s) else .fault .noCartridge
  | .renderframe draw => if s.cart.attached then .next (beginFrame draw s) else .fault .noCartridge
  | .softReset => if s.cart.attached then .next (softReset s) else .fault .noCartridge
  | .hardReset => if s.cart.attached then .next (hardReset s) else .fault .noCartridge
  | .apuProcess n => if s.cart.attached then .next (apuProcess n s) else .fault .noCartridge
  | .saveState =>
    if s.cart.attached then .next { s with host := { s.host with saved := some (takeSnapshot s) } } else .fault .noCartridge
  | .loadState k => if s.cart.attached then .next (loadSnapshot k s) else .fault .noCartridge

/-- Between host calls: the oldest pending call runs; with none pending, the host renders the next frame (log 11), or waits for
a cartridge (log 12). -/
def idleStep (s : State) : Result :=
  match s.host.calls with
  | call :: rest => runCall call { s with host := { s.host with calls := rest } }
  | [] =>
    if s.cart.attached then
      .next (beginFrame (Config.drawFlag s.draws) { s with draws := s.draws + 1 })
    else .next s

/-- One step of the machine (log 12): a host call, the start of a scanline, one instruction of the running slice, or its end. -/
def machineStep (s : State) : Result :=
  match s.orch.phase with
  | .idle => idleStep s
  | .lineStart => .next (startLine s)
  | .slice k start => if sliceRunning s then cpuStep s else .next (endSlice k start s)

/-! ### Placing an instruction -/

/-- Store a byte where a fetch of an address reads it; an address that is not plain memory keeps nothing. -/
def placeByte (a : Addr) (v : Byte) (s : State) : State :=
  match locate a s with
  | .ram k => { s with mem := { s.mem with ram := s.mem.ram.write k v } }
  | .sram k => { s with mem := { s.mem with sram := s.mem.sram.write k v } }
  | .prg k => { s with mem := { s.mem with prg := s.mem.prg.write k v } }
  | .device => s
  | .dead => s

/-- Are the three bytes from an address on plain memory? -/
def placeable (a : Addr) (s : State) : Bool :=
  (peek a s).isSome && (peek (a + 1) s).isSome && (peek (a + 2) s).isSome

/-- Place the three bytes of a word at pc, low byte first; where they cannot lie in plain memory, pc is first set to $0000 (log 13). -/
def placeWord (w : Nat) (s : State) : State :=
  let s1 := if placeable s.cpu.pc s then s else setPc 0 s
  let b (k : Nat) : Byte := BitVec.ofNat 8 (w / 256 ^ k)
  let pc := s1.cpu.pc
  placeByte (pc + 2) (b 2) (placeByte (pc + 1) (b 1) (placeByte pc (b 0) s1))

/-- Open a slice, if none is running, of a CPU that runs every instruction, so that the next step runs one (log 13). -/
def openSlice (s : State) : State :=
  let s1 := { s with
    run := { s.run with refused := false, jammed := false, remaining := max s.run.remaining 1 }
    undocPolicy := .nmos }
  match s.orch.phase with
  | .slice _ _ => s1
  | _ => { s1 with orch := { s1.orch with phase := .slice .line s.run.cycles } }

end Sys2Proof.Machine
end

