-- ==== Sys2Proof/Machine/Step.lean ====
section
/-! DEFINITION. The machine's step, and the placing of an instruction for the next step. -/

namespace Sys2Proof.Machine

/-- One step: next, fault or refusal (Machine/RunControl.lean, `machineStep`). -/
def step (s : State) : Host.Outcome State Fault Refusal := machineStep s

/-- `s` with the instruction whose bits are `w` stored where `step` fetches its next instruction, inside a running slice (log 13).
`nbits` is the row's length in bits; the bits above it are zero. -/
def State.withFetchWord (s : State) (nbits w : Nat) : State := openSlice (placeWord (w % 2 ^ nbits) s)

end Sys2Proof.Machine
end

