-- ==== Sys2Proof/Safety.lean ====
section
/-! DEFINITION. What counts as a safe run, and the words in which claims say what a read, a write or a step leaves unchanged. -/

namespace Sys2Proof.Machine

/-- A state that may end a run: `refused` is not set (10_state.md R48, 45_jam_undocumented.md R311). -/
def State.good (s : State) : Bool := !s.run.refused

/-- An outcome that a safe run may reach: a next state that is good. -/
def goodOutcome (r : Result) : Bool :=
  match r with
  | .next s => s.good
  | .fault _ => false
  | .refused _ => false

/-- What bus reads leave unchanged (20_memory.md R139): all but vblank, w, v and rdbuf ($2002, $2007), `fiq_occurred` ($4015), the
joypad counters ($4016, $4017) and the count of draws. -/
structure ReadFrame (s t : State) : Prop where
  cpu : t.cpu = s.cpu
  run : t.run = s.run
  pages : t.pages = s.pages
  mem : t.mem = s.mem
  ppu : t.ppu = { s.ppu with vblank := t.ppu.vblank, w := t.ppu.w, v := t.ppu.v, rdbuf := t.ppu.rdbuf }
  apu : t.apu = s.apu
  cart : t.cart = s.cart
  mmc1 : t.mmc1 = s.mmc1
  mmc3 : t.mmc3 = s.mmc3
  orch : t.orch = s.orch
  fiq : t.fiq = { s.fiq with occurred := t.fiq.occurred }
  host : t.host = s.host
  undocPolicy : t.undocPolicy = s.undocPolicy
  fiqRestart : t.fiqRestart = s.fiqRestart

/-- What a bus write leaves unchanged, wherever it goes (20_memory.md R137): the CPU's registers, the CPU's run state but `burn`
and `remaining` (OAM DMA), the cartridge and its PRG-ROM, the page entries below $8000, and the frame loop. -/
structure WriteFrame (s t : State) : Prop where
  cpu : t.cpu = s.cpu
  run : t.run = { s.run with burn := t.run.burn, remaining := t.run.remaining }
  prg : t.mem.prg = s.mem.prg
  lowPages : ∀ i : Fin 16, i.val < 8 → t.pages.get i = s.pages.get i
  cart : t.cart = s.cart
  orch : t.orch = s.orch
  host : t.host = s.host
  undocPolicy : t.undocPolicy = s.undocPolicy
  fiqRestart : t.fiqRestart = s.fiqRestart

/-- Every byte of plain memory reads in `t` as in `s`. -/
def SameBytes (s t : State) : Prop := ∀ b : Addr, peek b t = peek b s

/-- Does a bus write of an address store a byte in plain memory: CPU RAM, or SRAM that no write handler claims? -/
def plainStore (a : Addr) (s : State) : Bool :=
  decide (a.toNat < 0x2000) ||
    (decide (0x4018 ≤ a.toNat) && ((writeTable s.cart.mapper).lookup a.toNat).isNone &&
      match pageLoc a s with
      | .ram _ => true
      | .sram _ => true
      | .prg _ => false
      | .device => false
      | .dead => false)

/-- After a store to `ea`, every byte of plain memory but the one stored to reads as before; a store that is no plain store changes
no cell of RAM or SRAM. A store to $8000 and above may be a mapper's register write (20_memory.md R132): it may change what
$8000-$FFFF shows. -/
def StoreFrame (ea : Addr) (s t : State) : Prop :=
  (∀ b : Addr, b.toNat < 0x8000 ∨ ea.toNat < 0x8000 → locate b s ≠ locate ea s → peek b t = peek b s) ∧
    (plainStore ea s = false → t.mem.ram = s.mem.ram ∧ t.mem.sram = s.mem.sram) ∧ t.mem.prg = s.mem.prg

/-- The memories are in canonical form. -/
def Mems.wf (m : Mems) : Bool := m.ram.wf && m.sram.wf && m.prg.wf && m.chr.wf && m.nt.wf && m.oam.wf && m.pal.wf

/-- The memories that a pending host call would bring in are in canonical form. -/
def HostCall.wf (c : HostCall) : Bool :=
  match c with
  | .loadState k => k.mem.wf
  | .insert _ _ => true
  | .eject => true
  | .renderframe _ => true
  | .softReset => true
  | .hardReset => true
  | .apuProcess _ => true
  | .saveState => true

/-- Every memory of the machine is in canonical form, those of the pending `loadState` calls too. -/
def State.memWf (s : State) : Bool := s.mem.wf && s.host.calls.all HostCall.wf

end Sys2Proof.Machine
end

