-- ==== Sys2Proof/Certificates/Slice0/Obligations.lean ====
section
/-! DEFINITION. The statements for the provers, and the vocabulary they are written in. A cost, a flag or a result stands here as the
spec's rule gives it, not as the model computes it. -/

namespace Sys2Proof.Claims

open Sys2Proof.Machine

/-! ### The opcode map and the costs (30_encoding.md R190) -/

/-- A row of the opcode map. -/
abbrev MapRow := List (Mnemonic × Mode)

/-- The opcode map of 30_encoding.md R190, row by row: the mnemonic and the addressing mode of each opcode byte. -/
def specMap : List (Mnemonic × Mode) :=
  ([(.BRK, .brk), (.ORA, .izx), (.JAM, .imp), (.SLO, .izx), (.NOP, .zp), (.ORA, .zp), (.ASL, .zp), (.SLO, .zp),
   (.PHP, .imp), (.ORA, .imm), (.ASL, .acc), (.ANC, .imm), (.NOP, .abs), (.ORA, .abs), (.ASL, .abs), (.SLO, .abs)] : MapRow) ++
  ([(.BPL, .rel), (.ORA, .izy), (.JAM, .imp), (.SLO, .izy), (.NOP, .zpx), (.ORA, .zpx), (.ASL, .zpx), (.SLO, .zpx),
   (.CLC, .imp), (.ORA, .absy), (.NOP, .imp), (.SLO, .absy), (.NOP, .absx), (.ORA, .absx), (.ASL, .absx), (.SLO, .absx)] : MapRow) ++
  ([(.JSR, .abs), (.AND, .izx), (.JAM, .imp), (.RLA, .izx), (.BIT, .zp), (.AND, .zp), (.ROL, .zp), (.RLA, .zp),
   (.PLP, .imp), (.AND, .imm), (.ROL, .acc), (.ANC, .imm), (.BIT, .abs), (.AND, .abs), (.ROL, .abs), (.RLA, .abs)] : MapRow) ++
  ([(.BMI, .rel), (.AND, .izy), (.JAM, .imp), (.RLA, .izy), (.NOP, .zpx), (.AND, .zpx), (.ROL, .zpx), (.RLA, .zpx),
   (.SEC, .imp), (.AND, .absy), (.NOP, .imp), (.RLA, .absy), (.NOP, .absx), (.AND, .absx), (.ROL, .absx), (.RLA, .absx)] : MapRow) ++
  ([(.RTI, .imp), (.EOR, .izx), (.JAM, .imp), (.SRE, .izx), (.NOP, .zp), (.EOR, .zp), (.LSR, .zp), (.SRE, .zp),
   (.PHA, .imp), (.EOR, .imm), (.LSR, .acc), (.ALR, .imm), (.JMP, .abs), (.EOR, .abs), (.LSR, .abs), (.SRE, .abs)] : MapRow) ++
  ([(.BVC, .rel), (.EOR, .izy), (.JAM, .imp), (.SRE, .izy), (.NOP, .zpx), (.EOR, .zpx), (.LSR, .zpx), (.SRE, .zpx),
   (.CLI, .imp), (.EOR, .absy), (.NOP, .imp), (.SRE, .absy), (.NOP, .absx), (.EOR, .absx), (.LSR, .absx), (.SRE, .absx)] : MapRow) ++
  ([(.RTS, .imp), (.ADC, .izx), (.JAM, .imp), (.RRA, .izx), (.NOP, .zp), (.ADC, .zp), (.ROR, .zp), (.RRA, .zp),
   (.PLA, .imp), (.ADC, .imm), (.ROR, .acc), (.ARR, .imm), (.JMP, .ind), (.ADC, .abs), (.ROR, .abs), (.RRA, .abs)] : MapRow) ++
  ([(.BVS, .rel), (.ADC, .izy), (.JAM, .imp), (.RRA, .izy), (.NOP, .zpx), (.ADC, .zpx), (.ROR, .zpx), (.RRA, .zpx),
   (.SEI, .imp), (.ADC, .absy), (.NOP, .imp), (.RRA, .absy), (.NOP, .absx), (.ADC, .absx), (.ROR, .absx), (.RRA, .absx)] : MapRow) ++
  ([(.NOP, .imm), (.STA, .izx), (.NOP, .imm), (.SAX, .izx), (.STY, .zp), (.STA, .zp), (.STX, .zp), (.SAX, .zp),
   (.DEY, .imp), (.NOP, .imm), (.TXA, .imp), (.ANE, .imm), (.STY, .abs), (.STA, .abs), (.STX, .abs), (.SAX, .abs)] : MapRow) ++
  ([(.BCC, .rel), (.STA, .izy), (.JAM, .imp), (.SHA, .izy), (.STY, .zpx), (.STA, .zpx), (.STX, .zpy), (.SAX, .zpy),
   (.TYA, .imp), (.STA, .absy), (.TXS, .imp), (.TAS, .absy), (.SHY, .absx), (.STA, .absx), (.SHX, .absy), (.SHA, .absy)] : MapRow) ++
  ([(.LDY, .imm), (.LDA, .izx), (.LDX, .imm), (.LAX, .izx), (.LDY, .zp), (.LDA, .zp), (.LDX, .zp), (.LAX, .zp),
   (.TAY, .imp), (.LDA, .imm), (.TAX, .imp), (.LXA, .imm), (.LDY, .abs), (.LDA, .abs), (.LDX, .abs), (.LAX, .abs)] : MapRow) ++
  ([(.BCS, .rel), (.LDA, .izy), (.JAM, .imp), (.LAX, .izy), (.LDY, .zpx), (.LDA, .zpx), (.LDX, .zpy), (.LAX, .zpy),
   (.CLV, .imp), (.LDA, .absy), (.TSX, .imp), (.LAS, .absy), (.LDY, .absx), (.LDA, .absx), (.LDX, .absy), (.LAX, .absy)] : MapRow) ++
  ([(.CPY, .imm), (.CMP, .izx), (.NOP, .imm), (.DCP, .izx), (.CPY, .zp), (.CMP, .zp), (.DEC, .zp), (.DCP, .zp),
   (.INY, .imp), (.CMP, .imm), (.DEX, .imp), (.AXS, .imm), (.CPY, .abs), (.CMP, .abs), (.DEC, .abs), (.DCP, .abs)] : MapRow) ++
  ([(.BNE, .rel), (.CMP, .izy), (.JAM, .imp), (.DCP, .izy), (.NOP, .zpx), (.CMP, .zpx), (.DEC, .zpx), (.DCP, .zpx),
   (.CLD, .imp), (.CMP, .absy), (.NOP, .imp), (.DCP, .absy), (.NOP, .absx), (.CMP, .absx), (.DEC, .absx), (.DCP, .absx)] : MapRow) ++
  ([(.CPX, .imm), (.SBC, .izx), (.NOP, .imm), (.ISB, .izx), (.CPX, .zp), (.SBC, .zp), (.INC, .zp), (.ISB, .zp),
   (.INX, .imp), (.SBC, .imm), (.NOP, .imp), (.SBC, .imm), (.CPX, .abs), (.SBC, .abs), (.INC, .abs), (.ISB, .abs)] : MapRow) ++
  ([(.BEQ, .rel), (.SBC, .izy), (.JAM, .imp), (.ISB, .izy), (.NOP, .zpx), (.SBC, .zpx), (.INC, .zpx), (.ISB, .zpx),
   (.SED, .imp), (.SBC, .absy), (.NOP, .imp), (.ISB, .absy), (.NOP, .absx), (.SBC, .absx), (.INC, .absx), (.ISB, .absx)] : MapRow)

/-- Cycles of the reading instructions, before the page-cross penalty; implied forms cost 2. -/
def readCycles : Mode → Nat
  | .imp => 2
  | .acc => 2
  | .brk => 7
  | .imm => 2
  | .zp => 3
  | .zpx => 4
  | .zpy => 4
  | .izx => 6
  | .izy => 5
  | .rel => 2
  | .abs => 4
  | .absx => 4
  | .absy => 4
  | .ind => 5

/-- Cycles of the storing instructions. -/
def storeCycles : Mode → Nat
  | .imp => 0
  | .acc => 0
  | .brk => 0
  | .imm => 0
  | .zp => 3
  | .zpx => 4
  | .zpy => 4
  | .izx => 6
  | .izy => 6
  | .rel => 0
  | .abs => 4
  | .absx => 5
  | .absy => 5
  | .ind => 0

/-- Cycles of the read-modify-write instructions. -/
def rmwCycles : Mode → Nat
  | .imp => 0
  | .acc => 2
  | .brk => 0
  | .imm => 0
  | .zp => 5
  | .zpx => 6
  | .zpy => 0
  | .izx => 8
  | .izy => 8
  | .rel => 0
  | .abs => 6
  | .absx => 7
  | .absy => 7
  | .ind => 0

/-- The run state after a charge of `k` cycles (10_state.md R41). -/
def charged (k : Nat) (s : State) : Run :=
  { s.run with cycles := s.run.cycles + k, remaining := s.run.remaining - k }

/-- `setNZ` (00_scope.md R9). -/
def nz (f : Flags) (v : Byte) : Flags := { f with n := v.getLsbD 7, z := decide (v = 0) }

/-- A flag as a number. -/
def one (c : Bool) : Nat := if c then 1 else 0

/-! ### The shapes of instructions -/

/-- The state after a reading instruction whose operand load answered `r`: the load's own effects, the registers `c`, the cost. -/
def readNext (o : Operand) (r : Loaded × State) (c : Cpu) (s : State) : State :=
  { r.2 with cpu := c, run := charged (readCycles o.mode + one r.1.crossed) s }

/-- Every form of `m` loads its operand, leaves the registers `c v cpu` for the operand byte `v`, and changes nothing but what the load
itself does as a bus read. -/
def Reads (m : Mnemonic) (c : Byte → Cpu → Cpu) : Prop :=
  ∀ (i : Instr) (o : Operand) (s : State), i.form = (m, o) →
    let r := loadOperand o s
    let t := readNext o r (c r.1.val s.cpu) s
    exec i s = .next t ∧ ReadFrame { s with cpu := t.cpu, run := t.run } t ∧ SameBytes s t

/-- The state after a store of `v` at `a` in state `s`, at a fixed cost. -/
def storeNext (k : Nat) (a : Addr) (v : Byte) (s : State) : State :=
  { memWrite a v s with run := charged k (memWrite a v s) }

/-- What a store of `v` at `a` does to the bytes of memory: `a` reads `v` after it where it is plain memory, and every other byte is
as before. -/
def StoresAt (a : Addr) (v : Byte) (s t : State) : Prop :=
  StoreFrame a s t ∧ (plainStore a s = true → s.mem.wf = true → peek a t = some v)

/-- Every form of `m` stores the byte `v cpu` at its effective address and changes no register and no flag. -/
def Stores (m : Mnemonic) (v : Cpu → Byte) : Prop :=
  ∀ (i : Instr) (o : Operand) (s : State), i.form = (m, o) →
    let a := (effAddr o s).1.addr
    let t := storeNext (storeCycles o.mode) a (v s.cpu) s
    exec i s = .next t ∧ t.cpu = s.cpu ∧ StoresAt a (v s.cpu) s t

/-- Every memory form of `m` reads the byte `x` at its effective address, writes the byte of `f x flags` back, and leaves the registers
`g` of that byte and of the registers with `f`'s flags. -/
def Modifies (m : Mnemonic) (f : Byte → Flags → Byte × Flags) (g : Byte → Cpu → Cpu) : Prop :=
  ∀ (i : Instr) (o : Operand) (s : State), i.form = (m, o) → o ≠ .acc →
    let a := (effAddr o s).1.addr
    let x := memRead a s
    let r := f x.1 s.cpu.f
    let t := { storeNext (rmwCycles o.mode) a r.1 x.2 with cpu := g r.1 { s.cpu with f := r.2 } }
    exec i s = .next t ∧ StoresAt a r.1 s t

/-- The accumulator form of `m` does the same on A. -/
def ModifiesA (m : Mnemonic) (f : Byte → Flags → Byte × Flags) : Prop :=
  ∀ (i : Instr) (s : State), i.form = (m, .acc) →
    exec i s = .next { s with cpu := { s.cpu with a := (f s.cpu.a s.cpu.f).1, f := (f s.cpu.a s.cpu.f).2 }, run := charged 2 s }

/-- Every form of `m`, which has no operand in memory, leaves the registers `c` and changes nothing else. -/
def RegisterOnly (m : Mnemonic) (c : Cpu → Cpu) : Prop :=
  ∀ (i : Instr) (s : State), i.form = (m, .imp) → exec i s = .next { s with cpu := c s.cpu, run := charged 2 s }

/-- The immediate form of `m` leaves the registers `c` of the immediate byte and changes nothing else. -/
def ImmediateOnly (m : Mnemonic) (c : Byte → Cpu → Cpu) : Prop :=
  ∀ (i : Instr) (o : Operand) (s : State), i.form = (m, o) →
    ∃ v, o = .imm v ∧ exec i s = .next { s with cpu := c v s.cpu, run := charged 2 s }

/-- A branch with a condition on the flags (43_control_transfer.md R270). -/
def Branches (m : Mnemonic) (cond : Flags → Bool) : Prop :=
  ∀ (i : Instr) (o : Operand) (s : State), i.form = (m, o) →
    ∃ r : Byte, o = .rel r ∧
      let target : Addr := BitVec.ofInt 16 (s.cpu.pc.toNat + r.toInt)
      let cost := if cond s.cpu.f then (if target.toNat / 256 = s.cpu.pc.toNat / 256 then 3 else 4) else 2
      exec i s = .next { s with
        cpu := { s.cpu with pc := if cond s.cpu.f then target else s.cpu.pc }, run := charged cost s }

/-! ### Arithmetic (41_arith_logic.md R230, R232, R234) -/

/-- `AddBin` on the registers, with the signed overflow as its meaning: the sum of the signed values leaves -128..127. -/
def added (m : Byte) (c : Cpu) : Cpu :=
  let sum := c.a.toNat + m.toNat + one c.f.c
  let ssum := c.a.toInt + m.toInt + one c.f.c
  let r : Byte := BitVec.ofNat 8 sum
  { c with a := r
           f := { nz c.f r with v := decide (ssum < -128 ∨ 127 < ssum), c := decide (255 < sum) } }

/-- `SubBin` on the registers: A - m - (1 - C), C the not-borrow, V the signed overflow. -/
def subtracted (m : Byte) (c : Cpu) : Cpu :=
  let diff := (c.a.toNat : Int) - m.toNat - (1 - one c.f.c)
  let sdiff := c.a.toInt - m.toInt - (1 - one c.f.c)
  let r : Byte := BitVec.ofInt 8 diff
  { c with a := r
           f := { nz c.f r with v := decide (sdiff < -128 ∨ 127 < sdiff), c := decide (0 ≤ diff) } }

/-- `Compare(r, m)`: the flags. -/
def compared (r m : Byte) (f : Flags) : Flags :=
  { nz f (BitVec.ofInt 8 ((r.toNat : Int) - m.toNat)) with c := decide (m.toNat ≤ r.toNat) }

/-! ### Shifts (42_shift_rotate.md) -/

/-- A shift by one place to the left with `c` coming in at bit 0, bit 7 going out to C. -/
def shiftedLeft (cin : Bool) (x : Byte) (f : Flags) : Byte × Flags :=
  let r : Byte := BitVec.ofNat 8 (2 * x.toNat + one cin)
  (r, { f with c := x.getLsbD 7 })

/-- A shift by one place to the right with `c` coming in at bit 7, bit 0 going out to C. -/
def shiftedRight (cin : Bool) (x : Byte) (f : Flags) : Byte × Flags :=
  let r : Byte := BitVec.ofNat 8 (128 * one cin + x.toNat / 2)
  (r, { f with c := x.getLsbD 0 })

/-- The byte and flags of an operation, with N and Z of the byte. -/
def withNZ (p : Byte × Flags) : Byte × Flags := (p.1, nz p.2 p.1)

/-! ### The stack and interrupts -/

/-- P as pushed: N V 1 B D I Z C (10_state.md R36). -/
def statusByte (f : Flags) (b : Bool) : Byte :=
  BitVec.ofBool f.n ++ BitVec.ofBool f.v ++ 1#1 ++ BitVec.ofBool b ++ BitVec.ofBool f.d ++ BitVec.ofBool f.i ++
    BitVec.ofBool f.z ++ BitVec.ofBool f.c

/-- The cell of CPU RAM that a stack pointer addresses (10_state.md R33). -/
def stackCell (sp : Byte) : Nat := 256 + sp.toNat

/-- RAM after the three pushes of an interrupt frame that saves `pc`. -/
def frameRam (b : Bool) (pc : Addr) (s : State) : Memory :=
  ((s.mem.ram.write (stackCell s.cpu.sp) (BitVec.ofNat 8 (pc.toNat / 256))).write
    (stackCell (s.cpu.sp - 1)) (BitVec.ofNat 8 pc.toNat)).write (stackCell (s.cpu.sp - 2)) (statusByte s.cpu.f b)

/-- The state after the entry of IRQ, NMI or BRK, the run state apart: the frame pushed, I set, pc the little-endian word at the
vector, read low byte first (60_exceptions.md R359; 43_control_transfer.md R282). -/
def entered (b : Bool) (pc vector : Addr) (s : State) : State :=
  let u := { s with cpu := { s.cpu with sp := s.cpu.sp - 3, pc := pc, f := { s.cpu.f with i := true } },
                    mem := { s.mem with ram := frameRam b pc s } }
  let lo := memRead vector u
  let hi := memRead (vector + 1) lo.2
  { hi.2 with cpu := { u.cpu with pc := hi.1 ++ lo.1 } }

/-- No byte of memory but the three of an interrupt frame changes. -/
def FrameBytes (s t : State) : Prop :=
  ∀ b : Addr, locate b s ≠ .ram (stackCell s.cpu.sp) → locate b s ≠ .ram (stackCell (s.cpu.sp - 1)) →
    locate b s ≠ .ram (stackCell (s.cpu.sp - 2)) → peek b t = peek b s

/-! ### Undocumented stores (45_jam_undocumented.md R330-R333) -/

/-- An unstable store: `reg & (H + 1)` at EA, or at that byte's page when indexing crossed a page. -/
def UnstableStore (m : Mnemonic) (reg : Cpu → Byte) (sp : Cpu → Byte) : Prop :=
  ∀ (i : Instr) (o : Operand) (s : State), i.form = (m, o) →
    let e := (effAddr o s).1
    let v := reg s.cpu &&& BitVec.ofNat 8 (e.base.toNat / 256 + 1)
    let a : Addr := if e.crossed then BitVec.ofNat 16 (256 * v.toNat + e.addr.toNat % 256) else e.addr
    let u := { s with cpu := { s.cpu with sp := sp s.cpu } }
    let t := storeNext (storeCycles o.mode) a v u
    exec i s = .next t ∧ t.cpu = u.cpu ∧ StoresAt a v s t

/-! ### Mappings -/

/-- What 20_memory.md R144 and 10_state.md R52 say of the page tables while a cartridge is attached: $8000-$FFFF shows PRG-ROM, the
pattern tables CHR, and the four nametables pages of nametable RAM, twice. -/
def Mapped (c : Cart) (pages : Vector Page 16) (ppuPages : Vector PpuPage 16) : Prop :=
  c.attached = true →
    1 ≤ c.prgBanks ∧
    (∀ i : Fin 16, 8 ≤ i.val → ∃ base, pages.get i = .mapped .prg base ∧ base + 4096 ≤ c.prgBytes) ∧
    (∀ i : Fin 16, i.val < 8 → ∃ base, ppuPages.get i = ⟨.chr, base⟩ ∧ base + 1024 ≤ c.chrBytes) ∧
    (∀ i : Fin 16, 8 ≤ i.val → ∃ k : Fin 4, ppuPages.get i = ⟨.nt, 1024 * k.val⟩) ∧
    (∀ i j : Fin 16, 8 ≤ i.val → j.val = i.val + 4 → ppuPages.get j = ppuPages.get i)

/-- The mapping holds in the machine, and in every state that a pending `loadState` would bring in. -/
def AllMapped (s : State) : Prop :=
  Mapped s.cart s.pages s.ppu.pages ∧
    ∀ k, HostCall.loadState k ∈ s.host.calls → Mapped k.cart k.pages k.ppu.pages

/-- The page that `bank_prg(k, ·, b)` puts `j` places after its first (63_mapper.md R503). -/
def prgPage (c : Cart) (k b j : Nat) : Page :=
  let total := 16384 * c.prgBanks
  .mapped .prg ((b % max 1 (total / (1024 * k)) * (1024 * k) + 4096 * j) % total)

/-- The page that `bank_chr(k, ·, b)` puts `j` places after its first (63_mapper.md R504). -/
def chrPage (c : Cart) (k b j : Nat) : PpuPage :=
  let total := if c.chrBanks = 0 then 8192 else 8192 * c.chrBanks
  ⟨.chr, (b % max 1 (total / (1024 * k)) * (1024 * k) + 1024 * j) % total⟩

/-- Do the nametable entries show the four quadrants' pages, twice (63_mapper.md R505)? -/
def Mirrored (quadrants : List Nat) (t : State) : Prop :=
  ∀ i : Fin 16, 8 ≤ i.val → t.ppu.pages.get i = ⟨.nt, 1024 * quadrants.getD (i.val % 4) 0⟩

/-- The mapping that a reset leaves (63_mapper.md R507): the header's mirroring (R506), and by the mapper its first banks: mapper 0's are
the generic default (R511), mapper 1's bank $0F at $C000 (R515), and mapper 4's that of its registers at reset (R520). -/
def InitialMapping (t : State) : Prop :=
  let c := t.cart
  let n8 := max 1 (16384 * c.prgBanks / 8192)
  Mirrored (if c.fourScreen then [0, 1, 2, 3] else if c.vertical then [0, 1, 0, 1] else [0, 0, 1, 1]) t ∧
  (∀ i : Fin 16, 8 ≤ i.val → t.pages.get i =
    if c.mapper = 4 then prgPage c 8 ([0, 1, n8 - 2, n8 - 1].getD (i.val / 2 - 4) 0) (i.val % 2)
    else if i.val < 12 then prgPage c 16 0 (i.val - 8)
    else prgPage c 16 (if c.mapper = 1 then 0x0F else max 1 c.prgBanks - 1) (i.val - 12)) ∧
  ∀ i : Fin 16, i.val < 8 → t.ppu.pages.get i =
    if c.mapper = 4 then chrPage c 1 ([0, 1, 0, 1, 0, 0, 0, 0].getD i.val 0) 0 else chrPage c 8 0 i.val

/-- No more than the page tables from $8000 and of the PPU differs. -/
def OnlyMaps (s t : State) : Prop :=
  t = { s with pages := t.pages, ppu := { s.ppu with pages := t.ppu.pages } } ∧
    ∀ i : Fin 16, i.val < 8 → t.pages.get i = s.pages.get i

/-! ### The frame loop and the devices -/

/-- Is the next step a host call of the kind `p`? -/
def CallRuns (p : HostCall → Prop) (s : State) : Prop :=
  s.orch.phase = .idle ∧ ∃ c rest, s.host.calls = c :: rest ∧ p c

/-- The calls that replace or reset the machine's time. -/
def setsCycles (c : HostCall) : Prop :=
  c = .hardReset ∨ (∃ i b, c = .insert i b) ∨ ∃ k, c = .loadState k

/-- The calls that may end a JAM. -/
def endsJam (c : HostCall) : Prop :=
  c = .softReset ∨ c = .hardReset ∨ (∃ i b, c = .insert i b) ∨ ∃ k, c = .loadState k

/-- Is rendering enabled (10_state.md R55)? -/
def rendering (s : State) : Bool := s.ppu.ctrl1.getLsbD 3 || s.ppu.ctrl1.getLsbD 4

/-- A cell that the PPU's address space shows (61_ppu.md R401). -/
inductive PpuCell where
  | pal (k : Nat)
  | chr (k : Nat)
  | nt (k : Nat)
deriving DecidableEq, Repr

/-- The byte of a cell. -/
def PpuCell.read (c : PpuCell) (m : Mems) : Byte :=
  match c with
  | .pal k => m.pal.read k
  | .chr k => m.chr.read k
  | .nt k => m.nt.read k

/-- The cell at a PPU address (61_ppu.md R402). -/
def ppuCell (p : PpuAddr) (s : State) : PpuCell :=
  let k := p.toNat % 32
  let page := s.ppu.pages.get (ppuPageOf p)
  if 0x3F00 ≤ p.toNat then .pal (if k = 16 ∨ k = 20 ∨ k = 24 ∨ k = 28 then k - 16 else k)
  else
    match page.region with
    | .chr => .chr (page.base + p.toNat % 1024)
    | .nt => .nt (page.base + p.toNat % 1024)

/-! ### Pixels (61_ppu.md R403, R404, R429-R434, R441) -/

/-- The byte the PPU reads at an address, as a number. -/
def ppuByte (s : State) (a : Nat) : Nat := (ppuRead (BitVec.ofNat 14 a) s).toNat

/-- The pattern pixel at column `c` of row `r` of a tile (R403). -/
def patternAt (s : State) (table tile r c : Nat) : Nat :=
  let a := table + 16 * tile + r
  2 * (ppuByte s (a + 8) / 2 ^ (7 - c) % 2) + ppuByte s a / 2 ^ (7 - c) % 2

/-- The background at column `x` (R429): its pattern pixel and its palette number (R404). -/
def backgroundAt (s : State) (x : Nat) : Nat × Nat :=
  let v := s.ppu.v.toNat
  let col := s.ppu.fineX.toNat + x
  let across := v % 32 + col / 8
  let quadrant := v / 1024 % 4
  let n := if across < 32 then quadrant else if quadrant % 2 = 0 then quadrant + 1 else quadrant - 1
  let cx := across % 32
  let cy := v / 32 % 32
  let tile := ppuByte s (0x2000 + 1024 * n + 32 * cy + cx)
  let attr := ppuByte s (0x23C0 + 1024 * n + 8 * (cy / 4) + cx / 4)
  (patternAt s (if s.ppu.ctrl0.getLsbD 4 then 0x1000 else 0) tile (v / 4096) (col % 8),
   attr / 2 ^ (4 * (cy / 2 % 2) + 2 * (cx / 2 % 2)) % 4)

/-- Is the background opaque at column `x` (R430)? -/
def backgroundOpaque (s : State) (x : Nat) : Bool :=
  s.ppu.ctrl1.getLsbD 3 && (s.ppu.ctrl1.getLsbD 1 || decide (8 ≤ x)) && decide ((backgroundAt s x).1 ≠ 0)

/-- Byte `k` of sprite `i`, as a number (R444). -/
def spriteByte (s : State) (i k : Nat) : Nat := (s.mem.oam.read (4 * i + k)).toNat

/-- The height of the sprites (R431). -/
def height (s : State) : Nat := if s.ppu.ctrl0.getLsbD 5 then 16 else 8

/-- Is sprite `i` in range on line `y` (R431)? -/
def onLine (s : State) (y i : Nat) : Bool := decide (spriteByte s i 0 + 1 ≤ y) && decide (y < spriteByte s i 0 + 1 + height s)

/-- Is sprite `i` drawn on line `y`: in range, with fewer than 8 in range before it (R431)? -/
def drawnOn (s : State) (y i : Nat) : Bool := onLine s y i && decide ((List.range i).countP (onLine s y) < 8)

/-- The pattern pixel of sprite `i` at column `x` of line `y`, 0 outside its eight columns (R432). -/
def spriteAt (s : State) (y i x : Nat) : Nat :=
  let left := spriteByte s i 3
  let tile := spriteByte s i 1
  let attr := spriteByte s i 2
  let down := y - (spriteByte s i 0 + 1)
  let r := if attr / 128 % 2 = 1 then height s - 1 - down else down
  let c := if attr / 64 % 2 = 1 then 7 - (x - left) else x - left
  if x < left ∨ left + 8 ≤ x then 0
  else if s.ppu.ctrl0.getLsbD 5 then patternAt s (0x1000 * (tile % 2)) (2 * (tile / 2) + if 8 ≤ r then 1 else 0) (r % 8) c
  else patternAt s (if s.ppu.ctrl0.getLsbD 3 then 0x1000 else 0) tile r c

/-- Does sprite `i` show an opaque pixel at column `x` of line `y` (R433)? -/
def spriteShows (s : State) (y x i : Nat) : Bool :=
  s.ppu.ctrl1.getLsbD 4 && (s.ppu.ctrl1.getLsbD 2 || decide (8 ≤ x)) && decide (spriteAt s y i x ≠ 0)

/-- The number of sprites in range on line `y` (R431). -/
def spritesOn (s : State) (y : Nat) : Nat := (List.range 64).countP (onLine s y)

/-- Do sprite 0, where the line draws it, and the background show opaque pixels together at column `x` of line `y` (R426)? -/
def overlap (s : State) (y x : Nat) : Bool := drawnOn s y 0 && spriteShows s y x 0 && backgroundOpaque s x

/-- The pixel byte: background-transparent, sprite pixel, and the colour at a palette index (R441). -/
def markedPixel (s : State) (transparent sprite : Bool) (index : Nat) : Byte :=
  BitVec.ofBool transparent ++ BitVec.ofBool sprite ++ (s.mem.pal.read index).extractLsb' 0 6

/-- The pixel at column `x` of line `y`, rendering enabled (R433, R434). -/
def pixelAt (s : State) (y x : Nat) : Byte :=
  let solid := backgroundOpaque s x
  let b := backgroundAt s x
  let behind := markedPixel s (!solid) false (if solid then 4 * b.2 + b.1 else 0)
  match (List.range 64).find? (fun i => drawnOn s y i && spriteShows s y x i) with
  | none => behind
  | some i =>
    if spriteByte s i 2 / 32 % 2 = 1 ∧ solid = true then behind
    else markedPixel s (!solid) true (16 + 4 * (spriteByte s i 2 % 4) + spriteAt s y i x)

/-! ### Sound -/

/-- `LENGTH_TABLE` (62_apu.md R463). -/
def lengths : List Nat :=
  [5, 127, 10, 1, 20, 2, 40, 3, 80, 4, 30, 5, 7, 6, 13, 7, 6, 8, 12, 9, 24, 10, 48, 11, 96, 12, 36, 13, 8, 14, 16, 15]

/-- `length` after a write of a channel's reg3: loaded while the channel is enabled (62_apu.md R462). -/
def newLength (s : State) (bit : Nat) (d : Byte) (old : Nat) : Nat :=
  if s.apu.enable.getLsbD bit then lengths.getD (d.toNat / 8) 0 else old

/-- The steps of the length countdown in the `n` output samples from sample `k` on: 60 in each `SAMPLE_RATE` samples, from a free phase
(62_apu.md R464; log 8). -/
def countdown (k n : Nat) : Nat :=
  (60 * (k + n) + Config.lengthPhase) / Config.sampleRate - (60 * k + Config.lengthPhase) / Config.sampleRate

/-- A counter `n` steps on, at least 0, unless it is held. -/
def counted (held : Bool) (length n : Nat) : Nat := if held then length else length - n

/-- A channel's answer for one sample while it sounds, and else 0 (62_apu.md R465): of its registers, its period and its state. -/
def sounding (on : Bool) (c : Channel) (regs : List Byte) (period synth : Nat) : Int :=
  if on then (Config.synthChannel c regs period synth).1 else 0

/-- The 11-bit timer (62_apu.md R469). -/
def timerOf (reg2 reg3 : Byte) : Nat := 256 * (reg3.toNat % 8) + reg2.toNat

/-- Noise periods in CPU cycles (62_apu.md R469). -/
def noiseCycles : List Nat := [4, 8, 16, 32, 64, 96, 128, 160, 202, 254, 380, 508, 762, 1016, 2034, 4068]

/-- CPU cycles per DMC bit (62_apu.md R469). -/
def bitCycles : List Nat := [428, 380, 340, 320, 286, 254, 226, 214, 190, 160, 142, 128, 106, 84, 72, 54]

/-- The DMC level after a bit (62_apu.md R476): that a 1 adds and a 0 subtracts is the model's (log 35). -/
def levelAfter (level : BitVec 7) (bit : Bool) : BitVec 7 :=
  if bit = true ∧ level.toNat ≤ 125 then BitVec.ofNat 7 (level.toNat + 2)
  else if bit = false ∧ 2 ≤ level.toNat then BitVec.ofNat 7 (level.toNat - 2)
  else level

/-- The DMC after one output sample in which no byte was fetched (62_apu.md R469, R476): the bits whose time has come go out. Time is in
units of 1 / (12 * `SAMPLE_RATE`) CPU cycle, of which a sample lasts 21477272 (log 7). -/
def dmcAfter (c : Dmc) : Dmc :=
  let time := 21477272 + c.timer
  let bit := bitCycles.getD (c.reg0.toNat % 16) 0 * 12 * Config.sampleRate
  { c with level := (c.bits.take (time / bit)).foldl levelAfter c.level, bits := c.bits.drop (time / bit), timer := time % bit }

/-- The mix call (62_apu.md R474). Its samples come one after another, as many as it is asked for. With no DMC fetch to make it changes the
APU and the host's buffer only. The counters: a length steps 60 times in each `SAMPLE_RATE` samples, never below 0 and not while its halt
bit is set (R464); the triangle's delay counts samples, and holds its counters (R470, R471). That they count from the first sample made
with the delay at 0, and not in the sample that brings it there, is the model's choice (log 26). -/
def MixCounts : Prop :=
  (∀ (n : Nat) (s : State),
    let p := s.apu
    let t := apuProcess n s
    let q := t.apu
    let held := p.tri.reg0.getLsbD 7
    let steps := countdown p.clock n
    t.host.audio.length = n ∧ q.clock = p.clock + n ∧ q.enable = p.enable ∧
    ((p.enable.getLsbD 4 = false ∨ p.dmc.remaining = 0) → t = { s with apu := q, host := { s.host with audio := t.host.audio } }) ∧
    q.rect0 = { p.rect0 with length := counted (p.rect0.reg0.getLsbD 5) p.rect0.length steps } ∧
    q.rect1 = { p.rect1 with length := counted (p.rect1.reg0.getLsbD 5) p.rect1.length steps } ∧
    q.noise = { p.noise with length := counted (p.noise.reg0.getLsbD 5) p.noise.length steps } ∧
    q.tri = { p.tri with
      length := counted held p.tri.length (countdown (p.clock + min p.tri.delay n) (n - p.tri.delay))
      delay := counted held p.tri.delay n
      linear := q.tri.linear } ∧
    (held = false → n ≤ p.tri.delay → q.tri.linear = p.tri.linear) ∧
    q.dmc.remaining ≤ max p.dmc.remaining (16 * p.dmc.reg3.toNat + 1) ∧
    let next := apuProcess 1 t
    apuProcess (n + 1) s = { next with host := { next.host with audio := t.host.audio ++ next.host.audio } }) ∧
  ∀ k, countdown k Config.sampleRate = if Config.sampleRate = 0 then 0 else 60

/-- The synthesis states after a sample (62_apu.md R468, R473): each channel's new state by its registers, its period of R469 and its state, and
then the filter's for the raw sum. That a channel's state advances while it is silent, and the DMC's too, is the model's choice (log 8). -/
def synthAfter (p : Apu) (raw : Int) : List Nat :=
  let next (c : Channel) (regs : List Byte) (period k : Nat) : Nat := (Config.synthChannel c regs period (p.synth.getD k 0)).2
  [next .rect0 [p.rect0.reg0, p.rect0.reg1, p.rect0.reg2, p.rect0.reg3] (2 * timerOf p.rect0.reg2 p.rect0.reg3) 0,
   next .rect1 [p.rect1.reg0, p.rect1.reg1, p.rect1.reg2, p.rect1.reg3] (2 * timerOf p.rect1.reg2 p.rect1.reg3) 1,
   next .triangle [p.tri.reg0, p.tri.reg2, p.tri.reg3] (timerOf p.tri.reg2 p.tri.reg3) 2,
   next .noise [p.noise.reg0, p.noise.reg2, p.noise.reg3] (noiseCycles.getD (p.noise.reg2.toNat % 16) 0) 3,
   next .dmc [p.dmc.reg0, p.dmc.reg1, p.dmc.reg2, p.dmc.reg3] (bitCycles.getD (p.dmc.reg0.toNat % 16) 0) 4,
   (Config.synthFilter raw (p.synth.getD 5 0)).2]

/-- One output sample (62_apu.md R474): the linear counter (R471), the DMC's bits at the rate of R469 (R476; a 1 adds by log 35), and the
sample, which is the sum of what the channels contribute, filtered, clipped to 16 bits and written at the host's width (R473); the channels'
and the filter's new synthesis states (R468). What a
channel contributes (R465): its answer by R468 from its registers, its period of R469 and its state, and 0 while it is off or its
counter is 0; the DMC its level. -/
def MixSamples : Prop :=
  (∀ s : State,
    let p := s.apu
    let t := apuProcess 1 s
    let q := { t.apu with synth := p.synth }
    let raw := contribution q .rect0 + contribution q .rect1 + contribution q .triangle + contribution q .noise + contribution q .dmc
    let x := max (-32768) (min 32767 (Config.synthFilter raw (p.synth.getD 5 0)).1)
    t.host.audio = [if Config.sampleBits16 then BitVec.ofInt 16 x else BitVec.ofNat 16 (x / 256 + 128).toNat] ∧
    t.apu.synth = synthAfter p raw ∧
    t.apu.tri.linear =
      (if p.tri.reg0.getLsbD 7 then Config.linearReload p.tri.reg0 p.tri.linear p.tri.delay p.clock
       else if p.tri.delay = 0 ∧ Config.linearTick p.clock = true then p.tri.linear - 1 else p.tri.linear) ∧
    ((p.enable.getLsbD 4 = false ∨ p.dmc.remaining = 0) → t.apu.dmc = dmcAfter p.dmc)) ∧
  ∀ p : Apu,
    let state (k : Nat) : Nat := p.synth.getD k 0
    contribution p .rect0 = sounding (p.enable.getLsbD 0 && decide (0 < p.rect0.length)) .rect0
      [p.rect0.reg0, p.rect0.reg1, p.rect0.reg2, p.rect0.reg3] (2 * timerOf p.rect0.reg2 p.rect0.reg3) (state 0) ∧
    contribution p .rect1 = sounding (p.enable.getLsbD 1 && decide (0 < p.rect1.length)) .rect1
      [p.rect1.reg0, p.rect1.reg1, p.rect1.reg2, p.rect1.reg3] (2 * timerOf p.rect1.reg2 p.rect1.reg3) (state 1) ∧
    contribution p .triangle =
      sounding (p.enable.getLsbD 2 && decide (0 < p.tri.length) && decide (0 < p.tri.linear)) .triangle
        [p.tri.reg0, p.tri.reg2, p.tri.reg3] (timerOf p.tri.reg2 p.tri.reg3) (state 2) ∧
    contribution p .noise = sounding (p.enable.getLsbD 3 && decide (0 < p.noise.length)) .noise
      [p.noise.reg0, p.noise.reg2, p.noise.reg3] (noiseCycles.getD (p.noise.reg2.toNat % 16) 0) (state 3) ∧
    contribution p .dmc = if p.enable.getLsbD 4 then (p.dmc.level.toNat : Int) else 0

/-- The start of a line's own slice: the mapper's hblank, 1364 twelfths more, and a slice of the accumulator's whole cycles
(64_frame_sync.md R550). -/
def lineSlice (s : State) : State :=
  let y := if s.cart.mapper = 4 then mmc3Hblank s else s
  let z := { y with orch := { y.orch with acc := y.orch.acc + 1364 } }
  { enterExecute (z.orch.acc / 12) z with orch := { z.orch with phase := .slice .line z.run.cycles } }

/-- `n` calls of MMC3's hblank callback. -/
def hblanks : Nat → State → State
  | 0, s => s
  | n + 1, s => mmc3Hblank (hblanks n s)

end Sys2Proof.Claims

section Statements

open Sys2Proof Sys2Proof.Machine Sys2Proof.Claims

/-! ### Encoding -/

/-- Words written out from 30_encoding.md R171 and R190, at least one for each file of instruction rules and for each addressing mode of
R174, decode to the instruction they stand for. -/
def Obligations.SampleWordsDecode : Prop :=
  decode [0xA9, 0x44] = .ok (.ldaImm 0x44, []) ∧
  decode [0xB1, 0x10] = .ok (.ldaIzy 0x10, []) ∧
  decode [0x8D, 0x34, 0x12] = .ok (.staAbs 0x34 0x12, []) ∧
  decode [0x69, 0x03] = .ok (.adcImm 0x03, []) ∧
  decode [0x4A] = .ok (.lsrAcc, []) ∧
  decode [0xD0, 0xFB] = .ok (.bne 0xFB, []) ∧
  decode [0x6C, 0xFF, 0x02] = .ok (.jmpInd 0xFF 0x02, []) ∧
  decode [0x00, 0xEA] = .ok (.brk, []) ∧
  decode [0x08] = .ok (.php, []) ∧
  decode [0x02] = .ok (.jam02, []) ∧
  decode [0x97, 0x20] = .ok (.saxZpy 0x20, []) ∧
  decode [0xE6, 0x10] = .ok (.incZp 0x10, []) ∧
  decode [0x15, 0xF0] = .ok (.oraZpx 0xF0, []) ∧
  decode [0x01, 0x24] = .ok (.oraIzx 0x24, []) ∧
  decode [0xBD, 0xFF, 0x20] = .ok (.ldaAbsx 0xFF 0x20, []) ∧
  decode [0x99, 0x00, 0x03] = .ok (.staAbsy 0x00 0x03, []) ∧
  decode [0xAA] = .ok (.tax, []) ∧
  decode [0xEB, 0x01, 0x99] = .ok (.sbcImmEB 0x01, [0x99])

/-- Decoding what an instruction encodes to gives the instruction back, with every operand byte, and leaves the bytes after it. -/
def Obligations.DecodeOfEncodeIsTheInstruction : Prop :=
  ∀ (i : Instr) (rest : List Byte), decode (encode i ++ rest) = .ok (i, rest)

/-- The bytes that decode to an instruction are the bytes it encodes to, but for BRK's padding byte, which is any byte. -/
def Obligations.BytesDecodedAreTheEncoding : Prop :=
  ∀ (bytes : List Byte) (i : Instr) (rest : List Byte), decode bytes = .ok (i, rest) →
    (i ≠ .brk → bytes = encode i ++ rest) ∧ (i = .brk → ∃ p, bytes = 0x00 :: p :: rest)

/-- 30_encoding.md R194, R190-R193: every opcode byte with any operand bytes decodes, to a well-formed instruction of that opcode, whose
mnemonic and addressing mode are those of R190's map; the JAM set is R192's 12 opcodes and the undocumented set R193's 93, disjoint
from it. -/
def Obligations.EveryOpcodeDecodes : Prop :=
  (∀ (op b1 b2 : Byte) (rest : List Byte), ∃ i n, decode (op :: b1 :: b2 :: rest) = .ok (i, (b1 :: b2 :: rest).drop n) ∧
    n ≤ 2 ∧ i.opcode = op ∧ i.wellFormed = true ∧ (i.form.1, i.form.2.mode) = specMap.getD op.toNat (.JAM, .imp) ∧
    (i.form.1 = .JAM ↔ op ∈ jamOpcodes)) ∧
  jamOpcodes.length = 12 ∧ jamOpcodes.Nodup ∧ undocumentedOpcodes.length = 93 ∧ undocumentedOpcodes.Nodup ∧
  ∀ op, op ∈ jamOpcodes → op ∉ undocumentedOpcodes

/-! ### The step -/

/-- A step inside a running slice, the CPU not jammed, whose bytes at pc decode to an instruction is exec of it, with pc after the
bytes fetched: the opcode and its operand bytes (for BRK the opcode alone). -/
def Obligations.StepRunsTheDecodedInstruction : Prop :=
  ∀ (s : State) (k : SliceKind) (start : Nat) (b0 b1 b2 : Byte) (i : Instr) (rest : List Byte),
    s.orch.phase = .slice k start → sliceRunning s = true → s.run.jammed = false →
    peek s.cpu.pc s = some b0 → peek (s.cpu.pc + 1) s = some b1 → peek (s.cpu.pc + 2) s = some b2 →
    decode [b0, b1, b2] = .ok (i, rest) → ¬ (s.undocPolicy = .refuse ∧ b0 ∈ undocumentedOpcodes) →
    step s = exec i (setPc (s.cpu.pc + 1 + BitVec.ofNat 16 i.form.2.bytes.length) s)

/-- 30_encoding.md R173, from any memory: a step inside a running slice, the CPU not jammed, reads the opcode and then as many operand
bytes as it needs through the bus decode, at increasing pc, and runs the instruction with pc after them. BRK's padding byte is not
read. -/
def Obligations.FetchReadsTheBus : Prop :=
  ∀ (s : State) (k : SliceKind) (start : Nat), s.orch.phase = .slice k start → sliceRunning s = true → s.run.jammed = false →
    let r0 := memRead s.cpu.pc s
    let s0 := { r0.2 with cpu := { s.cpu with pc := s.cpu.pc + 1 } }
    let r1 := memRead (s.cpu.pc + 1) s0
    let s1 := { r1.2 with cpu := { s.cpu with pc := s.cpu.pc + 2 } }
    let r2 := memRead (s.cpu.pc + 2) s1
    let s2 := { r2.2 with cpu := { s.cpu with pc := s.cpu.pc + 3 } }
    ¬ (s.undocPolicy = .refuse ∧ r0.1 ∈ undocumentedOpcodes) →
      (operandCount r0.1 = 0 → step s = exec (decodeOp r0.1 0 0) s0) ∧
      (operandCount r0.1 = 1 → step s = exec (decodeOp r0.1 r1.1 0) s1) ∧
      (operandCount r0.1 = 2 → step s = exec (decodeOp r0.1 r1.1 r2.1) s2) ∧
      operandCount r0.1 ≤ 2 ∧ operandCount 0x00 = 0

/-- 60_exceptions.md R356: every instruction, in every state, ends in a next state. -/
def Obligations.EveryInstructionCompletes : Prop := ∀ (i : Instr) (s : State), ∃ t, exec i s = .next t

/-- The machine stops only where a host call other than insert runs with no cartridge attached, and there it always stops (64_frame_sync.md
R581; that the stop is a fault is the model's choice, log 12). -/
def Obligations.OnlyCallsWithoutACartridgeStop : Prop :=
  ∀ s : State, (∀ r, step s ≠ .refused r) ∧
    ((∃ f, step s = .fault f) ↔ CallRuns (fun c => ∀ i b, c ≠ .insert i b) s ∧ s.cart.attached = false)

/-- 45_jam_undocumented.md R311: a refused opcode leaves pc on itself, sets `refused`, ends the slice and charges nothing; and while
`refused` is set, execute, irq, nmi, burn, release and the CPU's reset leave the state unchanged. -/
def Obligations.RefusalStopsTheCpu : Prop :=
  (∀ (s : State) (k : SliceKind) (start : Nat), s.orch.phase = .slice k start → sliceRunning s = true →
    s.run.jammed = false → s.undocPolicy = .refuse → (memRead s.cpu.pc s).1 ∈ undocumentedOpcodes →
    step s = .next { (memRead s.cpu.pc s).2 with cpu := s.cpu, run := { s.run with refused := true, remaining := 0 } }) ∧
  ∀ s : State, s.run.refused = true →
    irq s = s ∧ nmi s = s ∧ (∀ k, addBurn k s = s) ∧ release s = s ∧ cpuReset s = s ∧ (∀ n, enterExecute n s = s) ∧
      sliceRunning s = false

/-- 45_jam_undocumented.md R312: JAM, whatever the policy, leaves pc on its opcode, sets `jammed`, charges `JAM_CYCLES` and ends the
slice; nothing is pushed and no vector is taken. Stated of the meaning and of the whole step. A jammed CPU that a slice runs fetches
again and jams again, whatever byte it reads (60_exceptions.md R351). -/
def Obligations.JamHaltsTheCpu : Prop :=
  (∀ (i : Instr) (o : Operand) (s : State), i.form = (.JAM, o) →
    exec i s = .next { s with
      cpu := { s.cpu with pc := s.cpu.pc - 1 }
      run := { s.run with jammed := true, cycles := s.run.cycles + Config.jamCycles, remaining := 0 } }) ∧
  ∀ (s : State) (k : SliceKind) (start : Nat), s.orch.phase = .slice k start → sliceRunning s = true →
    (s.run.jammed = true ∨ (memRead s.cpu.pc s).1 ∈ jamOpcodes) →
    step s = .next { (memRead s.cpu.pc s).2 with
      cpu := s.cpu
      run := { s.run with jammed := true, cycles := s.run.cycles + Config.jamCycles, remaining := 0 } }

/-- 60_exceptions.md R351: nothing but a reset (which insert also makes) or the load of a saved state ends a JAM, and no other step moves a
register of a jammed CPU. -/
def Obligations.OnlyResetEndsAJam : Prop :=
  ∀ s t : State, s.run.jammed = true → step s = .next t → (t.run.jammed = true ∧ t.cpu = s.cpu) ∨ CallRuns endsJam s

/-- 70_reset_and_hazards.md R622: `cycles` never decreases, but for a hard reset (which insert also makes) and the load of a saved state. -/
def Obligations.CyclesNeverDecrease : Prop :=
  ∀ s t : State, step s = .next t → s.run.cycles ≤ t.run.cycles ∨ CallRuns setsCycles s

/-! ### Invariants -/

/-- Every memory keeps its canonical form under every step. -/
def Obligations.StepKeepsCanonicalMemory : Prop := ∀ s t : State, s.memWf = true → step s = .next t → t.memWf = true

/-- 20_memory.md R144 and 10_state.md R52: every step keeps $8000-$FFFF mapped to PRG-ROM, the pattern tables to CHR and the
nametables to nametable RAM. -/
def Obligations.StepKeepsTheMapping : Prop := ∀ s t : State, AllMapped s → step s = .next t → AllMapped t

/-- Both invariants hold at reset; the blank cartridge there is the model's choice (log 2). -/
def Obligations.InvariantsHoldAtReset : Prop := State.reset.memWf = true ∧ AllMapped State.reset

/-! ### Loads, stores, transfers -/

/-- LDA, LDX, LDY (40_load_store_transfer.md R210-R212), STA, STX, STY (R213-R215). -/
def Obligations.LoadsAndStores : Prop :=
  Reads .LDA (fun v c => { c with a := v, f := nz c.f v }) ∧
  Reads .LDX (fun v c => { c with x := v, f := nz c.f v }) ∧
  Reads .LDY (fun v c => { c with y := v, f := nz c.f v }) ∧
  Stores .STA (fun c => c.a) ∧ Stores .STX (fun c => c.x) ∧ Stores .STY (fun c => c.y)

/-- The transfers (40_load_store_transfer.md R216-R221) and INX, INY, DEX, DEY (41_arith_logic.md R245, R246, R248, R249). -/
def Obligations.TransfersAndIndexSteps : Prop :=
  RegisterOnly .TAX (fun c => { c with x := c.a, f := nz c.f c.a }) ∧
  RegisterOnly .TAY (fun c => { c with y := c.a, f := nz c.f c.a }) ∧
  RegisterOnly .TXA (fun c => { c with a := c.x, f := nz c.f c.x }) ∧
  RegisterOnly .TYA (fun c => { c with a := c.y, f := nz c.f c.y }) ∧
  RegisterOnly .TSX (fun c => { c with x := c.sp, f := nz c.f c.sp }) ∧
  RegisterOnly .TXS (fun c => { c with sp := c.x }) ∧
  RegisterOnly .INX (fun c => { c with x := c.x + 1, f := nz c.f (c.x + 1) }) ∧
  RegisterOnly .INY (fun c => { c with y := c.y + 1, f := nz c.f (c.y + 1) }) ∧
  RegisterOnly .DEX (fun c => { c with x := c.x - 1, f := nz c.f (c.x - 1) }) ∧
  RegisterOnly .DEY (fun c => { c with y := c.y - 1, f := nz c.f (c.y - 1) })

/-! ### Arithmetic and logic -/

/-- ADC (41_arith_logic.md R235) adds in binary whatever D is: sum, carry and signed overflow. -/
def Obligations.AddWithCarry : Prop := Reads .ADC added

/-- SBC (41_arith_logic.md R236, and $EB, 45_jam_undocumented.md R326) subtracts in binary whatever D is: C is the not-borrow and V the
signed overflow. -/
def Obligations.SubtractWithBorrow : Prop := Reads .SBC subtracted

/-- AND, ORA, EOR (41_arith_logic.md R237-R239). -/
def Obligations.LogicInstructions : Prop :=
  Reads .AND (fun m c => { c with a := c.a &&& m, f := nz c.f (c.a &&& m) }) ∧
  Reads .ORA (fun m c => { c with a := c.a ||| m, f := nz c.f (c.a ||| m) }) ∧
  Reads .EOR (fun m c => { c with a := c.a ^^^ m, f := nz c.f (c.a ^^^ m) })

/-- CMP, CPX, CPY (41_arith_logic.md R234, R240-R242) and BIT (R243) write flags only. -/
def Obligations.CompareAndBitTest : Prop :=
  Reads .CMP (fun m c => { c with f := compared c.a m c.f }) ∧
  Reads .CPX (fun m c => { c with f := compared c.x m c.f }) ∧
  Reads .CPY (fun m c => { c with f := compared c.y m c.f }) ∧
  Reads .BIT (fun m c => { c with f := { c.f with z := decide (c.a &&& m = 0), n := m.getLsbD 7, v := m.getLsbD 6 } })

/-- INC, DEC (41_arith_logic.md R244, R247). -/
def Obligations.IncrementAndDecrementMemory : Prop :=
  Modifies .INC (fun x f => withNZ (x + 1, f)) (fun _ c => c) ∧ Modifies .DEC (fun x f => withNZ (x - 1, f)) (fun _ c => c)

/-- ASL, LSR, ROL, ROR on memory and on A (42_shift_rotate.md R260-R263). -/
def Obligations.ShiftsAndRotates : Prop :=
  Modifies .ASL (fun x f => withNZ (shiftedLeft false x f)) (fun _ c => c) ∧ ModifiesA .ASL (fun x f => withNZ (shiftedLeft false x f)) ∧
  Modifies .LSR (fun x f => withNZ (shiftedRight false x f)) (fun _ c => c) ∧ ModifiesA .LSR (fun x f => withNZ (shiftedRight false x f)) ∧
  Modifies .ROL (fun x f => withNZ (shiftedLeft f.c x f)) (fun _ c => c) ∧ ModifiesA .ROL (fun x f => withNZ (shiftedLeft f.c x f)) ∧
  Modifies .ROR (fun x f => withNZ (shiftedRight f.c x f)) (fun _ c => c) ∧ ModifiesA .ROR (fun x f => withNZ (shiftedRight f.c x f))

/-! ### Control transfer -/

/-- The eight branches (43_control_transfer.md R270-R278; the target is 30_encoding.md R187). -/
def Obligations.ConditionalBranches : Prop :=
  Branches .BPL (fun f => !f.n) ∧ Branches .BMI (fun f => f.n) ∧ Branches .BVC (fun f => !f.v) ∧ Branches .BVS (fun f => f.v) ∧
  Branches .BCC (fun f => !f.c) ∧ Branches .BCS (fun f => f.c) ∧ Branches .BNE (fun f => !f.z) ∧ Branches .BEQ (fun f => f.z)

/-- JMP (43_control_transfer.md R279): absolute, and indirect with the page-boundary bug (30_encoding.md R186). -/
def Obligations.Jumps : Prop :=
  ∀ (i : Instr) (o : Operand) (s : State), i.form = (.JMP, o) →
    (∃ l h, o = .abs l h ∧ exec i s = .next { s with cpu := { s.cpu with pc := h ++ l }, run := charged 3 s }) ∨
    ∃ l h, o = .ind l h ∧
      let lo := memRead (h ++ l) s
      let hi := memRead (h ++ (l + 1)) lo.2
      let t := { hi.2 with cpu := { s.cpu with pc := hi.1 ++ lo.1 }, run := charged 5 s }
      exec i s = .next t ∧ ReadFrame { s with cpu := t.cpu, run := t.run } t ∧ SameBytes s t

/-- JSR pushes the address of its last byte, high byte first, and RTS returns to the byte after the address it pulls (43_control_transfer.md
R280, R281). -/
def Obligations.CallAndReturn : Prop :=
  (∀ (i : Instr) (l h : Byte) (s : State), i.form = (.JSR, .abs l h) →
    let ret := s.cpu.pc - 1
    let high := s.mem.ram.write (stackCell s.cpu.sp) (BitVec.ofNat 8 (ret.toNat / 256))
    let t := { s with
      cpu := { s.cpu with sp := s.cpu.sp - 2, pc := h ++ l }
      mem := { s.mem with ram := high.write (stackCell (s.cpu.sp - 1)) (BitVec.ofNat 8 ret.toNat) }
      run := charged 6 s }
    exec i s = .next t ∧
      ∀ b : Addr, locate b s ≠ .ram (stackCell s.cpu.sp) → locate b s ≠ .ram (stackCell (s.cpu.sp - 1)) → peek b t = peek b s) ∧
  ∀ (i : Instr) (o : Operand) (s : State), i.form = (.RTS, o) →
    exec i s = .next { s with
      cpu := { s.cpu with
        sp := s.cpu.sp + 2
        pc := (s.mem.ram.read (stackCell (s.cpu.sp + 2)) ++ s.mem.ram.read (stackCell (s.cpu.sp + 1)) : Addr) + 1 }
      run := charged 6 s }

/-- BRK (43_control_transfer.md R282): the frame holds the address after the padding byte and P with B = 1; I is set, D is kept, and pc
is the word at $FFFE, whatever I was. -/
def Obligations.SoftwareInterrupt : Prop :=
  ∀ (i : Instr) (o : Operand) (s : State), i.form = (.BRK, o) →
    let t := { entered true (s.cpu.pc + 1) 0xFFFE s with run := charged 7 s }
    exec i s = .next t ∧ FrameBytes s t

/-- RTI (43_control_transfer.md R283; 10_state.md R37): P and then pc are pulled, with no + 1; bits 5 and 4 of P are discarded. -/
def Obligations.ReturnFromInterrupt : Prop :=
  ∀ (i : Instr) (o : Operand) (s : State), i.form = (.RTI, o) →
    let p := s.mem.ram.read (stackCell (s.cpu.sp + 1))
    exec i s = .next { s with
      cpu := { s.cpu with
        sp := s.cpu.sp + 3
        f := ⟨p.getLsbD 7, p.getLsbD 6, p.getLsbD 3, p.getLsbD 2, p.getLsbD 1, p.getLsbD 0⟩
        pc := s.mem.ram.read (stackCell (s.cpu.sp + 3)) ++ s.mem.ram.read (stackCell (s.cpu.sp + 2)) }
      run := charged 6 s }

/-! ### Stack and flags -/

/-- PHA, PHP, PLA, PLP (44_stack_flags_misc.md R290-R293): the one byte pushed or pulled, S, and the flags. -/
def Obligations.PushAndPullInstructions : Prop :=
  (∀ (i : Instr) (o : Operand) (s : State), (i.form = (.PHA, o) ∨ i.form = (.PHP, o)) →
    let v := if i.form.1 = .PHA then s.cpu.a else statusByte s.cpu.f true
    let t := { s with
      cpu := { s.cpu with sp := s.cpu.sp - 1 }
      mem := { s.mem with ram := s.mem.ram.write (stackCell s.cpu.sp) v }
      run := charged 3 s }
    exec i s = .next t ∧ ∀ b : Addr, locate b s ≠ .ram (stackCell s.cpu.sp) → peek b t = peek b s) ∧
  (∀ (i : Instr) (o : Operand) (s : State), i.form = (.PLA, o) →
    let v := s.mem.ram.read (stackCell (s.cpu.sp + 1))
    exec i s = .next { s with cpu := { s.cpu with sp := s.cpu.sp + 1, a := v, f := nz s.cpu.f v }, run := charged 4 s }) ∧
  ∀ (i : Instr) (o : Operand) (s : State), i.form = (.PLP, o) →
    let p := s.mem.ram.read (stackCell (s.cpu.sp + 1))
    exec i s = .next { s with
      cpu := { s.cpu with
        sp := s.cpu.sp + 1
        f := ⟨p.getLsbD 7, p.getLsbD 6, p.getLsbD 3, p.getLsbD 2, p.getLsbD 1, p.getLsbD 0⟩ }
      run := charged 4 s }

/-- The flag instructions and NOP $EA (44_stack_flags_misc.md R294-R301); and the implied and immediate NOPs (45_jam_undocumented.md R313),
which do nothing either, and the NOPs with an operand in memory, which perform the read and discard the value. -/
def Obligations.FlagInstructionsAndNop : Prop :=
  RegisterOnly .CLC (fun c => { c with f := { c.f with c := false } }) ∧
  RegisterOnly .SEC (fun c => { c with f := { c.f with c := true } }) ∧
  RegisterOnly .CLI (fun c => { c with f := { c.f with i := false } }) ∧
  RegisterOnly .SEI (fun c => { c with f := { c.f with i := true } }) ∧
  RegisterOnly .CLD (fun c => { c with f := { c.f with d := false } }) ∧
  RegisterOnly .SED (fun c => { c with f := { c.f with d := true } }) ∧
  RegisterOnly .CLV (fun c => { c with f := { c.f with v := false } }) ∧
  RegisterOnly .NOP (fun c => c) ∧
  (∀ (i : Instr) (v : Byte) (s : State), i.form = (.NOP, .imm v) → exec i s = .next { s with run := charged 2 s }) ∧
  Reads .NOP (fun _ c => c)

/-! ### Undocumented instructions -/

/-- SLO, RLA, SRE, RRA, DCP, ISB (45_jam_undocumented.md R314-R317, R320, R321): the read-modify-write, and what A and the flags become
from the byte written. -/
def Obligations.CombinedReadModifyWrite : Prop :=
  Modifies .SLO (shiftedLeft false) (fun r c => { c with a := c.a ||| r, f := nz c.f (c.a ||| r) }) ∧
  Modifies .RLA (fun x f => shiftedLeft f.c x f) (fun r c => { c with a := c.a &&& r, f := nz c.f (c.a &&& r) }) ∧
  Modifies .SRE (shiftedRight false) (fun r c => { c with a := c.a ^^^ r, f := nz c.f (c.a ^^^ r) }) ∧
  Modifies .RRA (fun x f => shiftedRight f.c x f) added ∧
  Modifies .DCP (fun x f => (x - 1, f)) (fun r c => { c with f := compared c.a r c.f }) ∧
  Modifies .ISB (fun x f => (x + 1, f)) subtracted

/-- SAX, LAX, LAS (45_jam_undocumented.md R318, R319, R329). -/
def Obligations.SaxLaxLas : Prop :=
  Stores .SAX (fun c => c.a &&& c.x) ∧
  Reads .LAX (fun v c => { c with a := v, x := v, f := nz c.f v }) ∧
  Reads .LAS (fun m c => { c with a := m &&& c.sp, x := m &&& c.sp, sp := m &&& c.sp, f := nz c.f (m &&& c.sp) })

/-- ANC, ALR, ARR, AXS (45_jam_undocumented.md R322-R325), and ANE, LXA (R327, R328) for every value of their OPEN constants. -/
def Obligations.UndocumentedImmediates : Prop :=
  ImmediateOnly .ANC (fun v c => { c with a := c.a &&& v, f := { nz c.f (c.a &&& v) with c := (c.a &&& v).getLsbD 7 } }) ∧
  ImmediateOnly .ALR (fun v c =>
    let r := withNZ (shiftedRight false (c.a &&& v) c.f)
    { c with a := r.1, f := r.2 }) ∧
  ImmediateOnly .ARR (fun v c =>
    let r := (shiftedRight c.f.c (c.a &&& v) c.f).1
    { c with a := r, f := { nz c.f r with c := r.getLsbD 6, v := r.getLsbD 6 != r.getLsbD 5 } }) ∧
  ImmediateOnly .AXS (fun v c => { c with x := (c.a &&& c.x) - v, f := compared (c.a &&& c.x) v c.f }) ∧
  ImmediateOnly .ANE (fun v c =>
    let r := (c.a ||| Config.aneMagic) &&& c.x &&& v
    { c with a := r, f := nz c.f r }) ∧
  ImmediateOnly .LXA (fun v c =>
    let r := (c.a ||| Config.lxaMagic) &&& v
    { c with a := r, x := r, f := nz c.f r })

/-- SHA, SHX, SHY, TAS (45_jam_undocumented.md R330-R333). -/
def Obligations.UnstableStores : Prop :=
  UnstableStore .SHA (fun c => c.a &&& c.x) (fun c => c.sp) ∧ UnstableStore .SHX (fun c => c.x) (fun c => c.sp) ∧
  UnstableStore .SHY (fun c => c.y) (fun c => c.sp) ∧ UnstableStore .TAS (fun c => c.a &&& c.x) (fun c => c.a &&& c.x)

/-! ### Operands and the bus -/

/-- The effective addresses (30_encoding.md R178-R185), as numbers: where each wraps, and when indexing crosses a page. Computing one has no
side effect. A load (R188) gives the immediate byte, A, or the byte the bus reads there; it changes only what a bus read changes
(20_memory.md R139), and no byte of memory. -/
def Obligations.EffectiveAddressesAndLoads : Prop :=
  ∀ (s : State) (z l h : Byte),
    let cell (k : Nat) : Nat := (s.mem.ram.read (k % 256)).toNat
    let crosses (o : Operand) (base i : Nat) : Prop :=
      (effAddr o s).1.base.toNat = base ∧ (effAddr o s).1.addr.toNat = (base + i) % 65536 ∧
        ((effAddr o s).1.crossed = true ↔ base / 256 ≠ (base + i) % 65536 / 256)
    let plain (o : Operand) (a : Nat) : Prop := (effAddr o s).1.addr.toNat = a ∧ (effAddr o s).1.crossed = false
    plain (.zp z) z.toNat ∧
    plain (.zpx z) ((z.toNat + s.cpu.x.toNat) % 256) ∧
    plain (.zpy z) ((z.toNat + s.cpu.y.toNat) % 256) ∧
    plain (.abs l h) (256 * h.toNat + l.toNat) ∧
    crosses (.absx l h) (256 * h.toNat + l.toNat) s.cpu.x.toNat ∧
    crosses (.absy l h) (256 * h.toNat + l.toNat) s.cpu.y.toNat ∧
    plain (.izx z) (256 * cell (z.toNat + s.cpu.x.toNat + 1) + cell (z.toNat + s.cpu.x.toNat)) ∧
    crosses (.izy z) (256 * cell (z.toNat + 1) + cell z.toNat) s.cpu.y.toNat ∧
    ∀ o, (effAddr o s).2 = s ∧
      (∀ v, o = .imm v → loadOperand o s = (⟨v, false⟩, s)) ∧
      (o = .acc → loadOperand o s = (⟨s.cpu.a, false⟩, s)) ∧
      ((∀ v, o ≠ .imm v) → o ≠ .acc →
        loadOperand o s = (⟨(memRead (effAddr o s).1.addr s).1, (effAddr o s).1.crossed⟩, (memRead (effAddr o s).1.addr s).2)) ∧
      ReadFrame s (loadOperand o s).2 ∧ SameBytes s (loadOperand o s).2

/-- Bus reads of RAM and its mirrors, and through the page table (20_memory.md R131, R133, R138): a mapped page gives the byte and has no
side effect, a dead page a draw. Every read keeps the frame of R139. -/
def Obligations.BusReads : Prop :=
  ∀ (a : Addr) (s : State),
    (a.toNat < 0x2000 → memRead a s = (s.mem.ram.read (a.toNat % 0x800), s)) ∧
    (0x4018 ≤ a.toNat → ∀ base,
      (s.pages.get (pageOf a) = .mapped .ram base → memRead a s = (s.mem.ram.read (base + a.toNat % 4096), s)) ∧
      (s.pages.get (pageOf a) = .mapped .sram base → memRead a s = (s.mem.sram.read (base + a.toNat % 4096), s)) ∧
      (s.pages.get (pageOf a) = .mapped .prg base → memRead a s = (s.mem.prg.read (base + a.toNat % 4096), s)) ∧
      (s.pages.get (pageOf a) = .dead → memRead a s = (Config.draw s.draws, { s with draws := s.draws + 1 }))) ∧
    ReadFrame s (memRead a s).2

/-- Bus writes of RAM and its mirrors, and through the page table where no handler claims the address (20_memory.md R132, R134, R138):
SRAM stores the byte, PRG-ROM and a dead page discard it. Every write leaves what WriteFrame and StoreFrame say. -/
def Obligations.BusWrites : Prop :=
  ∀ (a : Addr) (v : Byte) (s : State),
    (a.toNat < 0x2000 → memWrite a v s = { s with mem := { s.mem with ram := s.mem.ram.write (a.toNat % 0x800) v } }) ∧
    (0x4018 ≤ a.toNat → (a.toNat < 0x8000 ∨ (s.cart.mapper ≠ 1 ∧ s.cart.mapper ≠ 4)) → ∀ base,
      (s.pages.get (pageOf a) = .mapped .sram base →
        memWrite a v s = { s with mem := { s.mem with sram := s.mem.sram.write (base + a.toNat % 4096) v } }) ∧
      (s.pages.get (pageOf a) = .mapped .prg base → memWrite a v s = s) ∧
      (s.pages.get (pageOf a) = .dead → memWrite a v s = s)) ∧
    WriteFrame s (memWrite a v s) ∧ StoreFrame a s (memWrite a v s)

/-! ### Interrupts -/

/-- `nmi()` and `irq()` (60_exceptions.md R360, R361): without effect while refused or jammed; NMI never masked; IRQ deferred while
I = 1; the entry is that of R359 with B = 0, its cost owed as burn. -/
def Obligations.InterruptEntry : Prop :=
  ∀ s : State,
    ((s.run.refused = true ∨ s.run.jammed = true) → nmi s = s ∧ irq s = s) ∧
    (s.run.refused = false → s.run.jammed = false →
      nmi s = { entered false s.cpu.pc 0xFFFA s with run := { s.run with burn := s.run.burn + 7 } } ∧
      FrameBytes s (nmi s) ∧
      (s.cpu.f.i = true → irq s = { s with run := { s.run with intPending := true } }) ∧
      (s.cpu.f.i = false →
        irq s = { entered false s.cpu.pc 0xFFFE s with run := { s.run with burn := s.run.burn + 7 } } ∧ FrameBytes s (irq s)))

/-- The entry of a slice (60_exceptions.md R350, R352, R362): owed burn is paid first, at most the budget; then the pending IRQ is taken
if I = 0, the CPU is not jammed and budget is left, and its 7 cycles are charged at once. That the budget is an integer, and one of 0
or less pays and takes nothing, is the model's choice (log 16): R350's is a natural number. -/
def Obligations.SliceEntry : Prop :=
  ∀ (n : Int) (s : State), s.run.refused = false →
    let k := min s.run.burn n.toNat
    let u := { s with run := { s.run with burn := s.run.burn - k, cycles := s.run.cycles + k, remaining := n - k } }
    (s.run.intPending = true ∧ s.cpu.f.i = false ∧ s.run.jammed = false ∧ k < n →
      enterExecute n s = { entered false s.cpu.pc 0xFFFE u with
        run := { u.run with intPending := false, cycles := s.run.cycles + k + 7, remaining := n - k - 7 } }) ∧
    (¬ (s.run.intPending = true ∧ s.cpu.f.i = false ∧ s.run.jammed = false ∧ k < n) → enterExecute n s = u)

/-! ### PPU -/

/-- A read of $2002 and its mirrors (61_ppu.md R413, R427): vblank, the strike by the live cycle counter, overflow and five draws; it clears
vblank and w (that one free byte supplies the five draws is the model's form, log 23). Scenario 4 (R424): after a read, the next two $2006
writes are a fresh high and low byte. -/
def Obligations.StatusRead : Prop :=
  (∀ (a : Addr) (s : State), 0x2000 ≤ a.toNat → a.toNat < 0x4000 → a.toNat % 8 = 2 →
    (memRead a s).1.getLsbD 7 = s.ppu.vblank ∧
    (memRead a s).1.getLsbD 6 = (s.ppu.strikeFlag && decide (s.ppu.strikeCycle ≤ s.run.cycles)) ∧
    (memRead a s).1.getLsbD 5 = s.ppu.overflow ∧
    (∀ j, j < 5 → (memRead a s).1.getLsbD j = (Config.draw s.draws).getLsbD j) ∧
    (memRead a s).2 = { s with ppu := { s.ppu with vblank := false, w := false }, draws := s.draws + 1 }) ∧
  ∀ (h l : Byte) (s : State),
    let t := memWrite 0x2006 l (memWrite 0x2006 h (memRead 0x2002 s).2)
    t.ppu.v.toNat = 256 * (h.toNat % 64) + l.toNat ∧ t.ppu.w = false

/-- The PPU register writes, at every mirror (61_ppu.md R412, R414, R415, R417, R419, R420, R422), and the $2003 write and $2004 read of R416:
the bits of t and v, and nothing else; $2007's write is VramDataPort's `ppuWrite`, with v moved on. $2005 and $2006 share the flip-flop (R423):
after a first write at either, a write at the other is a second one. A read of a write-only register (R411), at every mirror, is a draw and
changes no state but the model's count of draws (log 5). -/
def Obligations.PpuRegisterWrites : Prop :=
  ∀ (a : Addr) (d : Byte) (s : State), 0x2000 ≤ a.toNat → a.toNat < 0x4000 →
    let u := memWrite a d s
    let tBits (f : Nat → Bool) : Prop := ∀ j, j < 15 → u.ppu.t.getLsbD j = f j
    let old (j : Nat) : Bool := s.ppu.t.getLsbD j
    (a.toNat % 8 = 0 → u = { s with ppu := { s.ppu with ctrl0 := d, t := u.ppu.t } } ∧
      tBits (fun j => if j = 10 ∨ j = 11 then d.getLsbD (j - 10) else old j)) ∧
    (a.toNat % 8 = 1 → u = { s with ppu := { s.ppu with ctrl1 := d } }) ∧
    (a.toNat % 8 = 2 → u = s) ∧
    (a.toNat % 8 = 3 → u = { s with ppu := { s.ppu with oamaddr := d } }) ∧
    (a.toNat % 8 = 4 → u = { s with ppu := { s.ppu with oamaddr := s.ppu.oamaddr + 1 },
                                    mem := { s.mem with oam := s.mem.oam.write s.ppu.oamaddr.toNat d } } ∧
      memRead a s = (s.mem.oam.read s.ppu.oamaddr.toNat, s)) ∧
    (a.toNat % 8 = 5 → s.ppu.w = false → u = { s with ppu := { s.ppu with t := u.ppu.t, fineX := d.extractLsb' 0 3, w := true } } ∧
      tBits (fun j => if j < 5 then d.getLsbD (j + 3) else old j)) ∧
    (a.toNat % 8 = 5 → s.ppu.w = true → u = { s with ppu := { s.ppu with t := u.ppu.t, w := false } } ∧
      tBits (fun j => if 5 ≤ j ∧ j < 10 then d.getLsbD (j - 2) else if 12 ≤ j then d.getLsbD (j - 12) else old j)) ∧
    (a.toNat % 8 = 6 → s.ppu.w = false → u = { s with ppu := { s.ppu with t := u.ppu.t, w := true } } ∧
      tBits (fun j => if 8 ≤ j ∧ j < 14 then d.getLsbD (j - 8) else if j = 14 then false else old j)) ∧
    (a.toNat % 8 = 6 → s.ppu.w = true → u = { s with ppu := { s.ppu with t := u.ppu.t, v := u.ppu.t, w := false } } ∧
      u.ppu.v = u.ppu.t ∧ tBits (fun j => if j < 8 then d.getLsbD j else old j)) ∧
    (a.toNat % 8 = 7 → u = { ppuWrite (BitVec.ofNat 14 s.ppu.v.toNat) d s with
      ppu := { s.ppu with v := BitVec.ofNat 15 (s.ppu.v.toNat + (if s.ppu.ctrl0.getLsbD 2 then 32 else 1)) } }) ∧
    (∀ (b : Addr) (e : Byte), 0x2000 ≤ b.toNat → b.toNat < 0x4000 → s.ppu.w = false →
      let x := memWrite b e u
      let xBits (f : Nat → Bool) : Prop := ∀ j, j < 15 → x.ppu.t.getLsbD j = f j
      (a.toNat % 8 = 5 → b.toNat % 8 = 6 →
        x = { s with ppu := { s.ppu with t := x.ppu.t, v := x.ppu.t, fineX := d.extractLsb' 0 3, w := false } } ∧
        x.ppu.v = x.ppu.t ∧ xBits (fun j => if j < 8 then e.getLsbD j else old j)) ∧
      (a.toNat % 8 = 6 → b.toNat % 8 = 5 →
        x = { s with ppu := { s.ppu with t := x.ppu.t, w := false } } ∧
        xBits (fun j => if 12 ≤ j then e.getLsbD (j - 12) else if 10 ≤ j then d.getLsbD (j - 8)
          else if 5 ≤ j then e.getLsbD (j - 2) else old j))) ∧
    (a.toNat % 8 = 0 ∨ a.toNat % 8 = 1 ∨ a.toNat % 8 = 3 ∨ a.toNat % 8 = 5 ∨ a.toNat % 8 = 6 →
      memRead a s = (Config.draw s.draws, { s with draws := s.draws + 1 }))

/-- The VRAM data port (61_ppu.md R418, R419): reads are buffered below $3F00 and direct above, and each access moves v on by 1 or 32. Through
R402's map, a PPU address reads its cell; a write keeps the byte there (6 bits of it in the palette, nothing in CHR-ROM) and changes no
other cell and nothing else. -/
def Obligations.VramDataPort : Prop :=
  ∀ (a : Addr) (d : Byte) (s : State), 0x2000 ≤ a.toNat → a.toNat < 0x4000 → a.toNat % 8 = 7 →
    let p : PpuAddr := BitVec.ofNat 14 s.ppu.v.toNat
    let next : BitVec 15 := BitVec.ofNat 15 (s.ppu.v.toNat + (if s.ppu.ctrl0.getLsbD 2 then 32 else 1))
    (p.toNat < 0x3F00 → memRead a s = (s.ppu.rdbuf, { s with ppu := { s.ppu with rdbuf := ppuRead p s, v := next } })) ∧
    (0x3F00 ≤ p.toNat → memRead a s =
      (ppuRead p s, { s with ppu := { s.ppu with rdbuf := ppuRead (BitVec.ofNat 14 (p.toNat - 0x1000)) s, v := next } })) ∧
    let u := ppuWrite p d s
    memWrite a d s = { u with ppu := { s.ppu with v := next } } ∧
    u = { s with mem := { s.mem with pal := u.mem.pal, chr := u.mem.chr, nt := u.mem.nt } } ∧
    (∀ q : PpuAddr, ppuRead q s = (ppuCell q s).read s.mem) ∧
    (∀ c : PpuCell, c ≠ ppuCell p s → c.read u.mem = c.read s.mem) ∧
    (s.mem.wf = true → 0x3F00 ≤ p.toNat → ppuRead p (ppuWrite p d s) = d &&& 0x3F) ∧
    (s.mem.wf = true → p.toNat < 0x3F00 → (s.ppu.pages.get (ppuPageOf p)).region = .nt ∨ s.cart.chrBanks = 0 →
      ppuRead p (ppuWrite p d s) = d) ∧
    (p.toNat < 0x3F00 → (s.ppu.pages.get (ppuPageOf p)).region = .chr → s.cart.chrBanks ≠ 0 → ppuWrite p d s = s)

/-- OAM DMA from a page of plain memory (61_ppu.md R421): the 256 bytes go to OAM from `oamaddr` on, wrapping; 513 cycles are owed, the slice
ends, and nothing else changes. -/
def Obligations.OamDma : Prop :=
  ∀ (d : Byte) (bytes : Byte → Byte) (s : State), s.mem.wf = true → s.run.refused = false →
    (∀ k : Byte, peek (d ++ k) s = some (bytes k)) →
    let t := memWrite 0x4014 d s
    (∀ k : Byte, t.mem.oam.read (s.ppu.oamaddr + k).toNat = bytes k) ∧
    t = { s with mem := { s.mem with oam := t.mem.oam }, run := { s.run with burn := s.run.burn + 513, remaining := 0 } }

/-- The states of the scanline machine that draw nothing (61_ppu.md R425): 241 sets vblank and `vram_accessible`, 261 clears them with the
strike and the overflow, the others and the disabled visible lines change nothing but the host's rows; the line end moves v only after a visible
line with rendering enabled. -/
def Obligations.ScanlineStates : Prop :=
  ∀ (y : Nat) (draw : Bool) (s : State),
    (y = 241 → ppuScanline y draw s = { s with ppu := { s.ppu with vblank := true, vramAccessible := true } }) ∧
    (y = 261 → ppuScanline y draw s =
      { s with ppu := { s.ppu with vblank := false, strikeFlag := false, overflow := false, vramAccessible := false } }) ∧
    (240 ≤ y → y ≠ 241 → y ≠ 261 → ppuScanline y draw s = s) ∧
    (y < 240 → rendering s = false → { ppuScanline y draw s with host := s.host } = s) ∧
    (¬ (y < 240 ∧ rendering s = true) → ppuEndScanline y s = s) ∧
    (y < 240 → rendering s = true → ppuEndScanline y s = { s with ppu := { s.ppu with v := fineYStep s.ppu.v } })

/-- A visible line with rendering enabled (61_ppu.md R426, R428, R431): v at the line start, the overflow by a 9th sprite in range, and the
strike set once, at `cycles` plus a third of the first column where sprite 0 and the background are opaque together (R430, R433);
nothing else changes but the host's rows. -/
def Obligations.StrikeAndOverflow : Prop :=
  ∀ (y : Nat) (draw : Bool) (s : State), y < 240 → rendering s = true →
    let t := ppuScanline y draw s
    let u := { s with ppu := { s.ppu with v := t.ppu.v } }
    t = { s with
      ppu := { s.ppu with v := t.ppu.v, overflow := t.ppu.overflow, strikeFlag := t.ppu.strikeFlag, strikeCycle := t.ppu.strikeCycle }
      host := t.host } ∧
    (∀ j, j < 15 → t.ppu.v.getLsbD j = if y = 0 ∨ j < 5 ∨ j = 10 then s.ppu.t.getLsbD j else s.ppu.v.getLsbD j) ∧
    t.ppu.overflow = (s.ppu.overflow || decide (9 ≤ spritesOn s y)) ∧
    (s.ppu.strikeFlag = true → t.ppu.strikeFlag = true ∧ t.ppu.strikeCycle = s.ppu.strikeCycle) ∧
    (s.ppu.strikeFlag = false →
      (∀ x, x < 255 → overlap u y x = true → (∀ x', x' < x → overlap u y x' = false) →
        t.ppu.strikeFlag = true ∧ t.ppu.strikeCycle = s.run.cycles + x / 3) ∧
      ((∀ x, x < 255 → overlap u y x = false) → t.ppu.strikeFlag = false ∧ t.ppu.strikeCycle = s.ppu.strikeCycle))

/-- `DRAW_FLAG` changes nothing but the host's rows (61_ppu.md R438): a line drawn and a line skipped leave the same machine. A drawn visible
line writes its own row and no other (R442): 256 pixels composed of background and sprites (R429-R434, R441), from v as the line start
left it, or the backdrop while rendering is disabled (R437). -/
def Obligations.DrawFlagOnlyDraws : Prop :=
  ∀ (y : Nat) (s : State),
    { ppuScanline y true s with host := s.host } = { ppuScanline y false s with host := s.host } ∧
    (ppuScanline y false s).host = s.host ∧
    (∀ draw, (ppuScanline y draw s).host = { s.host with screen := (ppuScanline y draw s).host.screen }) ∧
    let t := ppuScanline y true s
    let u := { s with ppu := { s.ppu with v := t.ppu.v } }
    (y < 240 → rendering s = true → t.host.screen.lookup y = some ((List.range 256).map (pixelAt u y))) ∧
    (y < 240 → rendering s = false → t.host.screen.lookup y = some (List.replicate 256 (markedPixel s true false 0))) ∧
    (∀ y', y' ≠ y → t.host.screen.lookup y' = s.host.screen.lookup y') ∧
    (240 ≤ y → t.host = s.host)

/-- The fine-Y step (61_ppu.md R435), field by field. -/
def Obligations.FineYStep : Prop :=
  ∀ v : BitVec 15,
    let w := fineYStep v
    let fy := v.extractLsb' 12 3
    let cy := v.extractLsb' 5 5
    w.extractLsb' 0 5 = v.extractLsb' 0 5 ∧ w.getLsbD 10 = v.getLsbD 10 ∧
    (fy ≠ 7 → w.extractLsb' 12 3 = fy + 1 ∧ w.extractLsb' 5 5 = cy ∧ w.getLsbD 11 = v.getLsbD 11) ∧
    (fy = 7 → cy = 29 → w.extractLsb' 12 3 = 0 ∧ w.extractLsb' 5 5 = 0 ∧ w.getLsbD 11 = !v.getLsbD 11) ∧
    (fy = 7 → cy = 31 → w.extractLsb' 12 3 = 0 ∧ w.extractLsb' 5 5 = 0 ∧ w.getLsbD 11 = v.getLsbD 11) ∧
    (fy = 7 → cy ≠ 29 → cy ≠ 31 → w.extractLsb' 12 3 = 0 ∧ w.extractLsb' 5 5 = cy + 1 ∧ w.getLsbD 11 = v.getLsbD 11)

/-! ### APU -/

/-- The writes of $4000-$4013 (62_apu.md R461, R462, R477): each stores its register, loads the length of an enabled channel by the table of
R463, and touches nothing else; $4009 and $400D store nothing. -/
def Obligations.ApuRegisterWrites : Prop :=
  ∀ (d : Byte) (s : State),
    let p := s.apu
    let w (a : Addr) (q : Apu) : Prop := memWrite a d s = { s with apu := q }
    w 0x4000 { p with rect0 := { p.rect0 with reg0 := d } } ∧ w 0x4001 { p with rect0 := { p.rect0 with reg1 := d } } ∧
    w 0x4002 { p with rect0 := { p.rect0 with reg2 := d } } ∧
    w 0x4003 { p with rect0 := { p.rect0 with reg3 := d, length := newLength s 0 d p.rect0.length } } ∧
    w 0x4004 { p with rect1 := { p.rect1 with reg0 := d } } ∧ w 0x4005 { p with rect1 := { p.rect1 with reg1 := d } } ∧
    w 0x4006 { p with rect1 := { p.rect1 with reg2 := d } } ∧
    w 0x4007 { p with rect1 := { p.rect1 with reg3 := d, length := newLength s 1 d p.rect1.length } } ∧
    w 0x4008 { p with tri := { p.tri with reg0 := d, delay := 4 } } ∧ w 0x4009 p ∧ w 0x400A { p with tri := { p.tri with reg2 := d } } ∧
    w 0x400B { p with tri := { p.tri with
      reg3 := d, length := newLength s 2 d p.tri.length, linear := p.tri.reg0.toNat % 128, delay := 4 } } ∧
    w 0x400C { p with noise := { p.noise with reg0 := d } } ∧ w 0x400D p ∧ w 0x400E { p with noise := { p.noise with reg2 := d } } ∧
    w 0x400F { p with noise := { p.noise with reg3 := d, length := newLength s 3 d p.noise.length } } ∧
    w 0x4010 { p with dmc := { p.dmc with reg0 := d } } ∧
    w 0x4011 { p with dmc := { p.dmc with reg1 := d, level := BitVec.ofNat 7 d.toNat } } ∧
    w 0x4012 { p with dmc := { p.dmc with reg2 := d } } ∧ w 0x4013 { p with dmc := { p.dmc with reg3 := d } }

/-- $4015 (62_apu.md R466, R467): the write sets the enables, clears the lengths of the disabled channels, stops or starts the DMC and clears
its IRQ; the read reports and clears `fiq_occurred` alone; a read of $4000-$4014 is a draw. Bit 5 of $4015 is a bit of a free byte (log 23). -/
def Obligations.ApuEnableAndStatus : Prop :=
  ∀ (d : Byte) (s : State),
    let p := s.apu
    let kept (k old : Nat) : Nat := if d.getLsbD k then old else 0
    memWrite 0x4015 d s = { s with apu := { p with
      enable := BitVec.ofNat 5 d.toNat
      rect0 := { p.rect0 with length := kept 0 p.rect0.length }
      rect1 := { p.rect1 with length := kept 1 p.rect1.length }
      tri := { p.tri with length := kept 2 p.tri.length }
      noise := { p.noise with length := kept 3 p.noise.length }
      dmc := { p.dmc with
        irq := false
        addr := if d.getLsbD 4 ∧ p.dmc.remaining = 0 then BitVec.ofNat 16 (0xC000 + 64 * p.dmc.reg2.toNat) else p.dmc.addr
        remaining := if d.getLsbD 4 then (if p.dmc.remaining = 0 then 16 * p.dmc.reg3.toNat + 1 else p.dmc.remaining) else 0 } } } ∧
    (let r := memRead 0x4015 s
     r.1.getLsbD 7 = p.dmc.irq ∧ r.1.getLsbD 6 = s.fiq.occurred ∧ r.1.getLsbD 5 = (Config.draw s.draws).getLsbD 5 ∧
     r.1.getLsbD 4 = decide (0 < p.dmc.remaining) ∧ r.1.getLsbD 3 = decide (0 < p.noise.length) ∧
     r.1.getLsbD 2 = decide (0 < p.tri.length) ∧ r.1.getLsbD 1 = decide (0 < p.rect1.length) ∧
     r.1.getLsbD 0 = decide (0 < p.rect0.length) ∧
     r.2 = { s with fiq := { s.fiq with occurred := false }, draws := s.draws + 1 }) ∧
    ∀ a : Addr, 0x4000 ≤ a.toNat → a.toNat < 0x4015 → memRead a s = (Config.draw s.draws, { s with draws := s.draws + 1 })

/-- One DMC fetch (62_apu.md R476): the byte is read through the bus, one cycle is owed, the address wraps from $FFFF to $8000; at the end of the
sample a loop restarts it, and else an enabled IRQ is raised. -/
def Obligations.DmcFetch : Prop :=
  ∀ (s : State) (b : Byte), s.run.refused = false → peek s.apu.dmc.addr s = some b → 0 < s.apu.dmc.remaining →
    let c := s.apu.dmc
    let next : Addr := if c.addr = 0xFFFF then 0x8000 else BitVec.ofNat 16 (c.addr.toNat + 1)
    let c' := { c with addr := next, remaining := c.remaining - 1, bits := c.bits ++ (List.range 8).map (fun k => b.getLsbD k) }
    let after (q : Dmc) : State := { s with apu := { s.apu with dmc := q }, run := { s.run with burn := s.run.burn + 1 } }
    (c.remaining ≠ 1 → dmcFetch s = after c') ∧
    (c.remaining = 1 → c.reg0.getLsbD 6 = true → dmcFetch s =
      after { c' with addr := BitVec.ofNat 16 (0xC000 + 64 * c.reg2.toNat), remaining := 16 * c.reg3.toNat + 1 }) ∧
    (c.remaining = 1 → c.reg0.getLsbD 6 = false → c.reg0.getLsbD 7 = true → dmcFetch s = irq (after { c' with irq := true })) ∧
    (c.remaining = 1 → c.reg0.getLsbD 6 = false → c.reg0.getLsbD 7 = false → dmcFetch s = after c')

/-- The mix call (62_apu.md R464, R465, R469-R471, R473, R474, R476): which counters move and by how much, and what each sample is. The free phases
and rates of `ApuSynth` are Config's (log 7, log 8); that the linear counter steps at most once in a sample (log 8), that a DMC bit of 1 adds (log 35), and from which sample the triangle's counters count
once the delay is over (log 26), are the model's choices, and so is that a silent channel's synthesis state advances (log 8). -/
def Obligations.MixCall : Prop := MixCounts ∧ MixSamples

/-! ### Mappers -/

/-- `bank_prg`, `bank_chr` and `ppu_mirror` (63_mapper.md R503-R505): which entries they write, and with what; the others stay. -/
def Obligations.BankPrimitives : Prop :=
  (∀ (k m : Nat) (b : Bank) (s : State) (i : Fin 16), k = 4 ∨ k = 8 ∨ k = 16 ∨ k = 32 → 0x8000 ≤ 1024 * k * m →
    1024 * k * (m + 1) ≤ 0x10000 →
    let n := max 1 (16384 * s.cart.prgBanks / (1024 * k))
    let j := match b with | .index x => x % n | .last => n - 1
    let first := 1024 * k * m / 4096
    let t := bankPrg k (1024 * k * m) b s
    (first ≤ i.val → i.val < first + k / 4 →
      t.pages.get i = .mapped .prg ((j * (1024 * k) + 4096 * (i.val - first)) % (16384 * s.cart.prgBanks))) ∧
    (i.val < first ∨ first + k / 4 ≤ i.val → t.pages.get i = s.pages.get i) ∧ t = { s with pages := t.pages }) ∧
  (∀ (k m : Nat) (b : Bank) (s : State) (i : Fin 16), k = 1 ∨ k = 2 ∨ k = 4 ∨ k = 8 → 1024 * k * (m + 1) ≤ 0x2000 →
    let total := if s.cart.chrBanks = 0 then 8192 else 8192 * s.cart.chrBanks
    let n := max 1 (total / (1024 * k))
    let j := match b with | .index x => x % n | .last => n - 1
    let t := bankChr k (1024 * k * m) b s
    (k * m ≤ i.val → i.val < k * m + k →
      t.ppu.pages.get i = ⟨.chr, (j * (1024 * k) + 1024 * (i.val - k * m)) % total⟩) ∧
    (i.val < k * m ∨ k * m + k ≤ i.val → t.ppu.pages.get i = s.ppu.pages.get i) ∧
    t = { s with ppu := { s.ppu with pages := t.ppu.pages } }) ∧
  ∀ (m : Mirror) (s : State) (i : Fin 16),
    let t := ppuMirror m s
    (i.val < 8 → t.ppu.pages.get i = s.ppu.pages.get i) ∧
    (i.val = 8 ∨ i.val = 12 → t.ppu.pages.get i = ⟨.nt, 1024 * m.nt0.val⟩) ∧
    (i.val = 9 ∨ i.val = 13 → t.ppu.pages.get i = ⟨.nt, 1024 * m.nt1.val⟩) ∧
    (i.val = 10 ∨ i.val = 14 → t.ppu.pages.get i = ⟨.nt, 1024 * m.nt2.val⟩) ∧
    (i.val = 11 ∨ i.val = 15 → t.ppu.pages.get i = ⟨.nt, 1024 * m.nt3.val⟩) ∧
    t = { s with ppu := { s.ppu with pages := t.ppu.pages } }

/-- The MMC1 serial port (63_mapper.md R513): a byte with bit 7 set resets the shift register and forces PRG mode 3; otherwise bit 0 is
shifted in, least significant first, and the fifth write loads the register that bits 14 and 13 of the address select and applies the
mapping. Scenario 2 (R517): after `mmc1_write($8000, $80)` from any state the latch and the counter are 0, PRG mode bits 3-2
are 11 and the other control bits as before; $8000 shows the bank of reg[3][3:0] and $C000 bank $0F, modulo the bank count. What applying
the mapping does (R514): the pages of the four PRG modes, of the two CHR modes and of the four mirrorings, and nothing else. -/
def Obligations.Mmc1SerialPort : Prop :=
  (∀ s : State,
    let m := s.mmc1
    let t := mmc1Apply s
    let mode := m.reg0.toNat / 4 % 4
    OnlyMaps s t ∧ Mirrored ([[0, 0, 0, 0], [1, 1, 1, 1], [0, 1, 0, 1], [0, 0, 1, 1]].getD (m.reg0.toNat % 4) []) t ∧
    (∀ i : Fin 16, 8 ≤ i.val → t.pages.get i =
      if mode = 2 then (if i.val < 12 then prgPage s.cart 16 0 (i.val - 8) else prgPage s.cart 16 (m.reg3.toNat % 16) (i.val - 12))
      else if mode = 3 then (if i.val < 12 then prgPage s.cart 16 (m.reg3.toNat % 16) (i.val - 8) else prgPage s.cart 16 15 (i.val - 12))
      else prgPage s.cart 32 (m.reg3.toNat / 2 % 8) (i.val - 8)) ∧
    ∀ i : Fin 16, i.val < 8 → t.ppu.pages.get i =
      if m.reg0.getLsbD 4 = false then chrPage s.cart 8 (m.reg1.toNat / 2) i.val
      else if i.val < 4 then chrPage s.cart 4 m.reg1.toNat i.val
      else chrPage s.cart 4 m.reg2.toNat (i.val - 4)) ∧
  (∀ (a : Addr) (d : Byte) (s : State), s.cart.mapper = 1 → 0x8000 ≤ a.toNat →
    let m := s.mmc1
    let sh : BitVec 5 := m.shift ||| BitVec.ofNat 5 (d.toNat % 2 * 2 ^ m.bitcount)
    (d.getLsbD 7 = true → memWrite a d s = mmc1Apply { s with mmc1 := { m with shift := 0, bitcount := 0, reg0 := m.reg0 ||| 0x0C } }) ∧
    (d.getLsbD 7 = false → m.bitcount ≠ 4 →
      memWrite a d s = { s with mmc1 := { m with shift := sh, bitcount := m.bitcount + 1 } }) ∧
    (d.getLsbD 7 = false → m.bitcount = 4 → memWrite a d s = mmc1Apply { s with mmc1 :=
      { shift := 0, bitcount := 0
        reg0 := if a.toNat < 0xA000 then sh else m.reg0
        reg1 := if 0xA000 ≤ a.toNat ∧ a.toNat < 0xC000 then sh else m.reg1
        reg2 := if 0xC000 ≤ a.toNat ∧ a.toNat < 0xE000 then sh else m.reg2
        reg3 := if 0xE000 ≤ a.toNat then sh else m.reg3 } })) ∧
  ∀ s : State, s.cart.mapper = 1 → 1 ≤ s.cart.prgBanks →
    let t := memWrite 0x8000 0x80 s
    t.mmc1.shift = 0 ∧ t.mmc1.bitcount = 0 ∧ t.mmc1.reg0.extractLsb' 2 2 = 3 ∧
    t.mmc1.reg0.extractLsb' 0 2 = s.mmc1.reg0.extractLsb' 0 2 ∧ t.mmc1.reg0.getLsbD 4 = s.mmc1.reg0.getLsbD 4 ∧
    ∀ j : Fin 4,
      t.pages.get ⟨8 + j.val, by omega⟩ = .mapped .prg (16384 * (s.mmc1.reg3.toNat % 16 % s.cart.prgBanks) + 4096 * j.val) ∧
      t.pages.get ⟨12 + j.val, by omega⟩ = .mapped .prg (16384 * (15 % s.cart.prgBanks) + 4096 * j.val)

/-- The MMC3 scanline counter (63_mapper.md R532, R533): `k` qualifying hblank calls move the counter from L to L - k; the call that finds 0 raises
`irq()` if enabled, and no other does; a call in vblank or with rendering disabled changes nothing. The registers, at every address their
decode covers: bank select and data (R522, R523), mirroring (R526), the ignored $A001 (R527) and the interrupt (R528-R531). What applying
the mapping does (R524): the 8 KB PRG pages, the CHR pages of either half, and nothing else. -/
def Obligations.Mmc3Interrupt : Prop :=
  (∀ s : State,
    let t := mmc3Apply s
    let bank (k : Fin 8) : Byte := s.mmc3.bank.get k
    let n8 := max 1 (16384 * s.cart.prgBanks / 8192)
    let two : List Byte := [bank 0 &&& 0xFE, bank 0 ||| 1, bank 1 &&& 0xFE, bank 1 ||| 1]
    let one : List Byte := [bank 2, bank 3, bank 4, bank 5]
    let prg : List Nat :=
      if s.mmc3.command.getLsbD 6 then [n8 - 2, (bank 7).toNat, (bank 6).toNat, n8 - 1] else [(bank 6).toNat, (bank 7).toNat, n8 - 2, n8 - 1]
    OnlyMaps s t ∧
    (∀ i : Fin 16, 8 ≤ i.val → t.pages.get i = prgPage s.cart 8 (prg.getD (i.val / 2 - 4) 0) (i.val % 2)) ∧
    (∀ i : Fin 16, i.val < 8 → t.ppu.pages.get i =
      chrPage s.cart 1 ((if s.mmc3.command.getLsbD 7 then one ++ two else two ++ one).getD i.val 0).toNat 0) ∧
    ∀ i : Fin 16, 8 ≤ i.val → t.ppu.pages.get i = s.ppu.pages.get i) ∧
  (∀ s : State, (s.orch.inVblank = true ∨ rendering s = false) → mmc3Hblank s = s) ∧
  (∀ (k : Nat) (s : State), s.orch.inVblank = false → rendering s = true →
    let u := hblanks k s
    let down := { u with mmc3 := { u.mmc3 with irqCounter := s.mmc3.irqCounter - (k + 1) } }
    u.mmc3.irqCounter = s.mmc3.irqCounter - k ∧
    (s.mmc3.irqCounter = k ∧ s.mmc3.irqEnabled = true → hblanks (k + 1) s = irq down) ∧
    (¬ (s.mmc3.irqCounter = k ∧ s.mmc3.irqEnabled = true) → hblanks (k + 1) s = down)) ∧
  ∀ (a : Addr) (d : Byte) (s : State), s.cart.mapper = 4 →
    (0xC000 ≤ a.toNat → a.toNat < 0xE000 → a.toNat % 2 = 0 → memWrite a d s = { s with mmc3 := { s.mmc3 with irqLatch := d } }) ∧
    (0xC000 ≤ a.toNat → a.toNat < 0xE000 → a.toNat % 2 = 1 →
      memWrite a d s = { s with mmc3 := { s.mmc3 with irqCounter := (s.mmc3.irqLatch.toNat : Int) } }) ∧
    (0xE000 ≤ a.toNat → a.toNat % 2 = 0 → memWrite a d s = { s with mmc3 := { s.mmc3 with irqEnabled := false } }) ∧
    (0xE000 ≤ a.toNat → a.toNat % 2 = 1 → memWrite a d s = { s with mmc3 := { s.mmc3 with irqEnabled := true } }) ∧
    (0xA000 ≤ a.toNat → a.toNat < 0xC000 → a.toNat % 2 = 1 → memWrite a d s = s) ∧
    (0x8000 ≤ a.toNat → a.toNat < 0xA000 → a.toNat % 2 = 0 →
      memWrite a d s = mmc3Apply { s with mmc3 := { s.mmc3 with command := d } }) ∧
    (0x8000 ≤ a.toNat → a.toNat < 0xA000 → a.toNat % 2 = 1 →
      memWrite a d s = mmc3Apply { s with mmc3 := { s.mmc3 with bank := s.mmc3.bank.setIfInBounds (s.mmc3.command.toNat % 8) d } }) ∧
    (0xA000 ≤ a.toNat → a.toNat < 0xC000 → a.toNat % 2 = 0 →
      let t := memWrite a d s
      (s.cart.fourScreen = true → t = s) ∧
      (s.cart.fourScreen = false → OnlyMaps s t ∧ t.pages = s.pages ∧
        Mirrored (if d.getLsbD 0 then [0, 0, 1, 1] else [0, 1, 0, 1]) t ∧
        ∀ i : Fin 16, i.val < 8 → t.ppu.pages.get i = s.ppu.pages.get i))

/-! ### Frame loop, FIQ, input -/

/-- The frame IRQ (64_frame_sync.md R560): the countdown, the restart, the mask, the $4017 write, and the report that a $4015 read makes and
clears. After the tick of a slice with a $4017 write, a state with `atWrite`, as a run from reset has it, keeps what R560's tick left, and one with
`atSliceEnd` has the whole period from there, the words of 70_reset_and_hazards.md R612 read to the cycle. That a state may follow either, and
that `State.reset` follows the first, is the model's choice (log 36). -/
def Obligations.FrameInterrupt : Prop :=
  (∀ (e : Nat) (s : State),
    let left := s.fiq.cycles - e
    (0 < left → fiqTick e s = { s with fiq := { s.fiq with cycles := left } }) ∧
    (left ≤ 0 → (s.fiq.state.getLsbD 7 = true ∨ s.fiq.state.getLsbD 6 = true) →
      fiqTick e s = { s with fiq := { s.fiq with cycles := left + 29829 } }) ∧
    (left ≤ 0 → s.fiq.state.getLsbD 7 = false → s.fiq.state.getLsbD 6 = false →
      fiqTick e s = irq { s with fiq := { s.fiq with cycles := left + 29829, occurred := true } }) ∧
    (s.fiq.restarted = false → settleFiqRestart s = s) ∧
    (s.fiq.restarted = true → s.fiqRestart = .atSliceEnd →
      settleFiqRestart s = { s with fiq := { s.fiq with cycles := 29829, restarted := false } }) ∧
    (s.fiqRestart = .atWrite → settleFiqRestart s = { s with fiq := { s.fiq with restarted := false } })) ∧
  State.reset.fiqRestart = .atWrite ∧
  ∀ (d : Byte) (s : State),
    let t := memWrite 0x4017 d s
    t = { s with fiq := { cycles := 29829, state := d, occurred := if d.getLsbD 6 then false else s.fiq.occurred, restarted := true } } ∧
    (∀ e, e < 29829 →
      (s.fiqRestart = .atSliceEnd → settleFiqRestart (fiqTick e t) = { t with fiq := { t.fiq with restarted := false } }) ∧
      (s.fiqRestart = .atWrite →
        settleFiqRestart (fiqTick e t) = { t with fiq := { t.fiq with cycles := 29829 - (e : Int), restarted := false } })) ∧
    (memRead 0x4015 s).1.getLsbD 6 = s.fiq.occurred ∧ (memRead 0x4015 s).2.fiq = { s.fiq with occurred := false }

/-- The joypads (64_frame_sync.md R571, R572): bit 0 is the oracle's button for the first eight reads and then a draw, the other bits draws; a
$4016 write restarts both counters. That one free byte supplies all the drawn bits of a read is the model's form (log 23). -/
def Obligations.Joypads : Prop :=
  ∀ (d : Byte) (s : State),
    memWrite 0x4016 d s = { s with pads := ⟨0, 0⟩ } ∧
    (∀ j, 1 ≤ j → j < 8 → (memRead 0x4016 s).1.getLsbD j = (Config.draw s.draws).getLsbD j ∧
      (memRead 0x4017 s).1.getLsbD j = (Config.draw s.draws).getLsbD j) ∧
    (s.pads.index0 < 8 → (memRead 0x4016 s).1.getLsbD 0 = Config.inputOracle 0 s.pads.index0 s.draws ∧
      (memRead 0x4016 s).2 = { s with pads := { s.pads with index0 := s.pads.index0 + 1 }, draws := s.draws + 1 }) ∧
    (s.pads.index1 < 8 → (memRead 0x4017 s).1.getLsbD 0 = Config.inputOracle 1 s.pads.index1 s.draws ∧
      (memRead 0x4017 s).2 = { s with pads := { s.pads with index1 := s.pads.index1 + 1 }, draws := s.draws + 1 }) ∧
    (8 ≤ s.pads.index0 → memRead 0x4016 s = (Config.draw s.draws, { s with draws := s.draws + 1 })) ∧
    (8 ≤ s.pads.index1 → memRead 0x4017 s = (Config.draw s.draws, { s with draws := s.draws + 1 }))

/-- The frame loop (64_frame_sync.md R550, R552): line 241 runs its 7-cycle slice before NMI and the line's own slice; every other line starts with
the mapper's hblank and a slice of the whole cycles of the accumulator; a slice's cycles leave the accumulator and drive the FIQ timer (R560),
and after that tick `settleFiqRestart` does what the state has for a slice with a $4017 write (log 36, the model's choice between R560's
pseudocode, which a run from reset follows, and the words of 70_reset_and_hazards.md R612); a line ends with the PPU's line end,
and a frame after line 261. Between frames the oldest call of the host runs, each of R576 as its own operation:
a `renderframe` call begins the frame at the current line, and `eject` (R581) destroys the rominfo, so that no cartridge is attached. The
points between which a step runs (log 12), the list of calls and the frame that the host renders with none pending (log 11), and what is left
of the memories and pages after an eject (log 20), are the model's choices. -/
def Obligations.FrameLoop : Prop :=
  (∀ s : State, s.orch.phase = .lineStart →
    let u := ppuScanline s.orch.scanline s.orch.draw s
    (s.orch.scanline = 262 → step s = .next { s with orch := { s.orch with scanline := 0, phase := .idle } }) ∧
    (s.orch.scanline = 241 →
      step s = .next { enterExecute 7 u with orch := { u.orch with phase := .slice .nmiDelay s.run.cycles } }) ∧
    (s.orch.scanline ≠ 262 → s.orch.scanline ≠ 241 → step s = .next (lineSlice u))) ∧
  (∀ (k : SliceKind) (start : Nat) (s : State), s.orch.phase = .slice k start → sliceRunning s = false →
    let e := s.run.cycles - start
    let p := settleFiqRestart (fiqTick e { s with orch := { s.orch with acc := s.orch.acc - 12 * (e : Int) } })
    let q := if p.ppu.ctrl0.getLsbD 7 then nmi p else p
    let r := ppuEndScanline s.orch.scanline p
    (k = .nmiDelay → step s = .next (lineSlice { q with orch := { p.orch with inVblank := true } })) ∧
    (k = .line → step s = .next { r with orch := { p.orch with scanline := s.orch.scanline + 1, phase := .lineStart } })) ∧
  (∀ (rest : List HostCall) (s : State), s.orch.phase = .idle →
    let u := { s with host := { s.host with calls := rest } }
    let runs (c : HostCall) (t : State) : Prop := s.host.calls = c :: rest → step s = .next t
    (∀ image battery, runs (.insert image battery) (insertCartridge image battery u)) ∧
    (s.cart.attached = true →
      (∀ draw, runs (.renderframe draw) { u with orch := { s.orch with inVblank := false, phase := .lineStart, draw := draw } }) ∧
      runs .softReset (softReset u) ∧ runs .hardReset (hardReset u) ∧ (∀ n, runs (.apuProcess n) (apuProcess n u)) ∧
      runs .saveState { u with host := { u.host with saved := some (takeSnapshot s) } } ∧
      (∀ k, runs (.loadState k) (loadSnapshot k u)) ∧ runs .eject (ejectCartridge u))) ∧
  (∀ s : State, s.orch.phase = .idle → s.host.calls = [] →
    (s.cart.attached = true → step s = .next { s with
      orch := { s.orch with inVblank := false, phase := .lineStart, draw := Config.drawFlag s.draws }, draws := s.draws + 1 }) ∧
    (s.cart.attached = false → step s = .next s)) ∧
  ∀ s : State,
    let t := ejectCartridge s
    t.cart = ⟨false, 0, 0, 0, false, false, false, false⟩ ∧
    t = { s with cart := t.cart, pages := t.pages, mem := { s.mem with prg := [], chr := [], sram := [] } } ∧
    ∀ i : Fin 16, (i.val < 2 → ∃ base, t.pages.get i = .mapped .ram base) ∧ (2 ≤ i.val → t.pages.get i = .dead)

/-! ### Reset, insert, save -/

/-- The soft reset (70_reset_and_hazards.md R592): the PPU, the APU, the mapper's own state (10_state.md R68, R69), the initial mapping
(63_mapper.md R507, R511, R515, R516, R520), the timers and the joypads at their reset values; the memories, `rdbuf` and the cartridge
unchanged. The CPU's reset (R590), unless refused: I = 1, no interrupt pending, not jammed, `RESET_CYCLES` owed, pc the word at $FFFC as that
mapping shows it; A, X, Y, S and `cycles` unchanged. A refused CPU is unchanged, and the rest proceeds (R595). The hard reset (R591):
CPU RAM all 0, `cycles` 0, A, X, Y, S and the PPU's memories drawn, SRAM, PRG-ROM and CHR-ROM unchanged, and then the soft reset. That
`strikeCycle`, `remaining`, `inVblank` and DRAW_FLAG stay and the DMC's address is 0 are the model's choices (log 24); the count of draws (log
5), `restarted` (log 36), the DMC's waiting bits and their time (log 7) and the count of samples (log 8) are its own fields. -/
def Obligations.SoftAndHardReset : Prop :=
  (∀ s : State,
    let t := softReset s
    t.mem = s.mem ∧ t.cart = s.cart ∧ t.host = s.host ∧
    t.apu = { rect0 := ⟨0, 0, 0, 0, 0⟩, rect1 := ⟨0, 0, 0, 0, 0⟩, tri := ⟨0, 0, 0, 0, 0, 0⟩, noise := ⟨0, 0, 0, 0⟩
              dmc := { reg0 := 0, reg1 := 0, reg2 := 0, reg3 := 0, addr := 0, remaining := 0, irq := false, level := 0
                       bits := [], timer := Config.dmcPhase }
              enable := 0, synth := Config.synthInit, clock := 0 } ∧
    t.ppu = { s.ppu with
      ctrl0 := 0, ctrl1 := 0, oamaddr := 0, v := 0, t := 0, fineX := 0, w := false, vblank := false, overflow := false
      strikeFlag := false, vramAccessible := false, pages := t.ppu.pages } ∧
    t.mmc1 = ⟨0, 0, 0x0C, 0, 0, 0⟩ ∧ t.mmc3 = ⟨0, ⟨#[0, 0, 0, 0, 0, 0, 0, 1], rfl⟩, 0, 0, false⟩ ∧
    t.orch = { s.orch with acc := 0, scanline := 241 } ∧ t.fiq = ⟨29829, 0, false, false⟩ ∧ t.pads = ⟨0, 0⟩ ∧
    InitialMapping t ∧ (∀ i : Fin 16, i.val < 8 → t.pages.get i = s.pages.get i) ∧
    (s.cart.mapper = 1 → s.cart.prgBanks = 2 → ∀ j : Fin 4, t.pages.get ⟨12 + j.val, by omega⟩ = .mapped .prg (16384 + 4096 * j.val)) ∧
    (s.cart.attached = true → 1 ≤ s.cart.prgBanks → Mapped t.cart t.pages t.ppu.pages) ∧
    (s.run.refused = true → t.cpu = s.cpu ∧ t.run = s.run) ∧
    (s.run.refused = false →
      t.cpu = { s.cpu with f := { t.cpu.f with i := true }, pc := t.cpu.pc } ∧
      t.run = { s.run with intPending := false, jammed := false, burn := Config.resetCycles } ∧
      ∀ lo hi, peek 0xFFFC t = some lo → peek 0xFFFD t = some hi → t.cpu.pc = hi ++ lo)) ∧
  ∀ s : State,
    let t := hardReset s
    (∀ k, t.mem.ram.read k = 0) ∧ t.run.cycles = 0 ∧ t.mem.sram = s.mem.sram ∧ t.mem.prg = s.mem.prg ∧
    (s.cart.chrBanks ≠ 0 → t.mem.chr = s.mem.chr) ∧ (∀ k, (t.mem.pal.read k).toNat < 64) ∧
    (s.run.refused = true → t.run = { s.run with cycles := 0 }) ∧
    (s.run.refused = false → t.cpu.f.i = true ∧
      t.run = { s.run with cycles := 0, intPending := false, jammed := false, burn := Config.resetCycles }) ∧
    ∃ u, t = softReset u ∧ u.mem = t.mem ∧ u.run = { s.run with cycles := 0 } ∧ u.ppu = { s.ppu with rdbuf := u.ppu.rdbuf } ∧
      u.cpu = { s.cpu with a := u.cpu.a, x := u.cpu.x, y := u.cpu.y, sp := u.cpu.sp } ∧ u.cart = s.cart ∧ u.orch = s.orch ∧
      u.host = s.host ∧ ∀ i : Fin 16, u.pages.get i = s.pages.get i

/-- An insert fails or loads (64_frame_sync.md R577, R578, R580). It fails on a wrong magic, no PRG bank, a short image or a mapper other than 0, 1
and 4 (log 21): it returns a status and changes nothing else. Otherwise the rominfo is the header's: a nonzero byte 8-15 drops flags7's
mapper nibble. PRG-ROM and CHR-ROM hold the image's bytes after the header and the trainer; SRAM holds the host's battery image, and
beside it the trainer at $1000; the CPU pages below $8000 are CPU RAM, dead pages and SRAM (63_mapper.md R506), the mapping is complete, and
the machine is hard-reset. The insert over an attached cartridge, the battery
image over the trainer's bytes, and its use whatever the header's battery bit is, are the model's choices (log 29). -/
def Obligations.FailedInsert : Prop :=
  ∀ (image : List Byte) (battery : Option (List Byte)) (s : State),
    let b (k : Nat) : Byte := image.getD k 0
    let flags := b 6
    let legacy := (List.range 8).any (fun k => decide (b (8 + k) ≠ 0))
    let mapper := if legacy then flags.toNat / 16 else 16 * ((b 7).toNat / 16) + flags.toNat / 16
    let c : Cart := ⟨true, mapper, (b 4).toNat, (b 5).toNat, flags.getLsbD 0, flags.getLsbD 1, flags.getLsbD 2, flags.getLsbD 3⟩
    let prgAt := if flags.getLsbD 2 then 528 else 16
    let chrAt := prgAt + 16384 * (b 4).toNat
    let saved := battery.getD []
    let fails := image.take 4 ≠ [0x4E, 0x45, 0x53, 0x1A] ∨ image.length < 16 ∨ b 4 = 0 ∨
      image.length < chrAt + 8192 * (b 5).toNat ∨ (mapper ≠ 0 ∧ mapper ≠ 1 ∧ mapper ≠ 4)
    let t := insertCartridge image battery s
    (fails → ∃ e, e ≠ LoadStatus.loaded ∧ t = { s with host := { s.host with status := e } }) ∧
    (¬ fails → t.cart = c ∧
      (∀ k, k < 16384 * (b 4).toNat → t.mem.prg.read k = b (prgAt + k)) ∧
      (∀ k, k < 8192 * (b 5).toNat → t.mem.chr.read k = b (chrAt + k)) ∧
      (∀ k, k < 8192 → k < saved.length → t.mem.sram.read k = saved.getD k 0) ∧
      (∀ k, k < 512 → flags.getLsbD 2 = true → saved.length ≤ 0x1000 + k → t.mem.sram.read (0x1000 + k) = b (16 + k)) ∧
      Mapped t.cart t.pages t.ppu.pages ∧
      (∀ i : Fin 16, i.val < 2 → ∃ base, t.pages.get i = .mapped .ram base) ∧
      (∀ i : Fin 16, 2 ≤ i.val → i.val < 6 → t.pages.get i = .dead) ∧
      t.pages.get 6 = .mapped .sram 0 ∧ t.pages.get 7 = .mapped .sram 4096 ∧
      ∃ u : State, u.cart = c ∧ t = { hardReset u with host := { s.host with status := .loaded } })

/-- Saving and then loading is the identity; a load while the same image is attached restores all that was saved but leaves `refused`
(64_frame_sync.md R579); and no load, of any state, changes the header, the PRG bytes or the CHR-ROM of the attached cartridge, which
are constant once inserted (10_state.md R66, R75). That the page tables are restored as saved, against the re-application of 63_mapper.md
R509, and that a state saved under another image is not loaded and changes nothing but the status, are the model's choices (log 18). -/
def Obligations.SaveAndLoad : Prop :=
  ∀ s u : State,
    let k := takeSnapshot s
    let same := s.cart = u.cart ∧ s.mem.prg = u.mem.prg ∧ (u.cart.chrBanks = 0 ∨ s.mem.chr = u.mem.chr)
    loadSnapshot k s = s ∧
    (same → takeSnapshot (loadSnapshot k u) = { k with run := { s.run with refused := u.run.refused } } ∧
      (loadSnapshot k u).host = u.host) ∧
    (¬ same → loadSnapshot k u = { u with host := { u.host with status := .otherCartridge } }) ∧
    ∀ k' : Snapshot, (loadSnapshot k' u).cart = u.cart ∧ (loadSnapshot k' u).mem.prg = u.mem.prg ∧
      (u.cart.chrBanks ≠ 0 → (loadSnapshot k' u).mem.chr = u.mem.chr)

end Statements
end

