-- ==== Sys2Proof/Laws/Memory.lean ====
section
/-! SUPPORT. The laws of memory: read after write, and the canonical form under every memory operation. -/

namespace Sys2Proof.Machine

@[simp] theorem Memory.read_nil (k : Nat) : Memory.read [] k = 0 := rfl

@[simp] theorem Memory.wf_nil : Memory.wf [] = true := rfl

/-- The canonical form from a smaller bound. -/
theorem Memory.wfFrom_mono {m : Memory} {j k : Nat} (h : Memory.wfFrom k m = true) (hj : j ≤ k) :
    Memory.wfFrom j m = true := by
  cases m with
  | nil => rfl
  | cons c m =>
    obtain ⟨a, v⟩ := c
    simp only [Memory.wfFrom, Bool.and_eq_true, decide_eq_true_eq] at h ⊢
    exact ⟨⟨by omega, h.1.2⟩, h.2⟩

/-- Below its bound a canonical memory lists nothing. -/
theorem Memory.read_below {m : Memory} {j k : Nat} (h : Memory.wfFrom k m = true) (hj : j < k) : m.read j = 0 := by
  induction m generalizing k with
  | nil => rfl
  | cons c m ih =>
    obtain ⟨a, v⟩ := c
    simp only [Memory.wfFrom, Bool.and_eq_true, decide_eq_true_eq] at h
    rw [Memory.read, if_neg (by omega)]
    exact ih h.2 (by omega)

theorem Memory.consCell_wf {m : Memory} {k j : Nat} {v : Byte} (h : Memory.wfFrom (k + 1) m = true) (hj : j ≤ k) :
    Memory.wfFrom j (Memory.consCell k v m) = true := by
  unfold Memory.consCell
  split
  · exact Memory.wfFrom_mono h (by omega)
  · next hv => simp [Memory.wfFrom, h, hv, hj]

theorem Memory.write_wfFrom {m : Memory} {j k : Nat} {v : Byte} (h : Memory.wfFrom j m = true) (hj : j ≤ k) :
    Memory.wfFrom j (m.write k v) = true := by
  induction m generalizing j with
  | nil => exact Memory.consCell_wf rfl hj
  | cons c m ih =>
    obtain ⟨a, w⟩ := c
    have h' := h
    simp only [Memory.wfFrom, Bool.and_eq_true, decide_eq_true_eq] at h'
    unfold Memory.write
    split
    · next hk => exact Memory.consCell_wf (Memory.wfFrom_mono (by simp [Memory.wfFrom, h'.1.2, h'.2] : Memory.wfFrom a _ = true) hk) hj
    · split
      · next hk hka => exact Memory.consCell_wf (hka ▸ h'.2) hj
      · next hk hka =>
        simp only [Memory.wfFrom, Bool.and_eq_true, decide_eq_true_eq]
        exact ⟨h'.1, ih h'.2 (by omega)⟩

/-- A write keeps the canonical form. -/
theorem Memory.write_wf {m : Memory} (h : m.wf = true) (k : Nat) (v : Byte) : (m.write k v).wf = true :=
  Memory.write_wfFrom h (Nat.zero_le k)

theorem Memory.ofBytesFrom_wf (bs : List Byte) (k : Nat) : Memory.wfFrom k (Memory.ofBytesFrom k bs) = true := by
  induction bs generalizing k with
  | nil => rfl
  | cons b bs ih => exact Memory.consCell_wf (ih (k + 1)) (Nat.le_refl k)

/-- A memory made from bytes is canonical. -/
theorem Memory.ofBytes_wf (bs : List Byte) : (Memory.ofBytes bs).wf = true := Memory.ofBytesFrom_wf bs 0

/-- Storing a list of bytes keeps the canonical form. -/
theorem Memory.writeBytes_wf {m : Memory} (h : m.wf = true) (k : Nat) (bs : List Byte) : (m.writeBytes k bs).wf = true := by
  induction bs generalizing m k with
  | nil => exact h
  | cons b bs ih => exact ih (Memory.write_wf h k b) (k + 1)

theorem Memory.read_consCell_self {m : Memory} {k : Nat} {v : Byte} (h : Memory.wfFrom (k + 1) m = true) :
    (Memory.consCell k v m).read k = v := by
  unfold Memory.consCell
  split
  · next hv => rw [Memory.read_below h (by omega), hv]; rfl
  · simp [Memory.read]

theorem Memory.read_consCell_other {m : Memory} {k j : Nat} {v : Byte} (h : j ≠ k) :
    (Memory.consCell k v m).read j = m.read j := by
  unfold Memory.consCell
  split
  · rfl
  · rw [Memory.read, if_neg (by omega)]

theorem Memory.read_write_self_from {m : Memory} {j : Nat} (h : Memory.wfFrom j m = true) (k : Nat) (v : Byte) (hj : j ≤ k) :
    (m.write k v).read k = v := by
  induction m generalizing j with
  | nil => exact Memory.read_consCell_self rfl
  | cons c m ih =>
    obtain ⟨a, w⟩ := c
    have h' := h
    simp only [Memory.wfFrom, Bool.and_eq_true, decide_eq_true_eq] at h'
    unfold Memory.write
    split
    · next hk => exact Memory.read_consCell_self (Memory.wfFrom_mono (by simp [Memory.wfFrom, h'.1.2, h'.2] : Memory.wfFrom a _ = true) hk)
    · split
      · next hk hka => exact Memory.read_consCell_self (hka ▸ h'.2)
      · next hk hka =>
        rw [Memory.read, if_neg (by omega)]
        exact ih h'.2 (by omega)

/-- A read of the offset written gives the byte written. -/
theorem Memory.read_write_self {m : Memory} (h : m.wf = true) (k : Nat) (v : Byte) : (m.write k v).read k = v :=
  Memory.read_write_self_from h k v (Nat.zero_le k)

/-- A write leaves every other offset as it reads, of any memory. -/
theorem Memory.read_write_other (m : Memory) {k j : Nat} (v : Byte) (hj : j ≠ k) : (m.write k v).read j = m.read j := by
  induction m with
  | nil => exact Memory.read_consCell_other hj
  | cons c m ih =>
    obtain ⟨a, w⟩ := c
    unfold Memory.write
    split
    · exact Memory.read_consCell_other hj
    · split
      · next hka => rw [Memory.read_consCell_other hj, Memory.read, if_neg (by omega)]
      · rw [Memory.read, Memory.read, ih]

/-- Offset `k + i` of a memory made from bytes reads byte `i`. -/
theorem Memory.read_ofBytesFrom (bs : List Byte) (k i : Nat) : (Memory.ofBytesFrom k bs).read (k + i) = bs.getD i 0 := by
  induction bs generalizing k i with
  | nil => rfl
  | cons b bs ih =>
    unfold Memory.ofBytesFrom
    cases i with
    | zero => exact Memory.read_consCell_self (Memory.ofBytesFrom_wf bs (k + 1))
    | succ i =>
      rw [Memory.read_consCell_other (by omega)]
      have := ih (k + 1) i
      rw [show k + 1 + i = k + (i + 1) by omega] at this
      simpa using this

/-- A memory made from bytes reads as they stand in the list. -/
theorem Memory.read_ofBytes (bs : List Byte) (i : Nat) : (Memory.ofBytes bs).read i = bs.getD i 0 := by
  simpa [Memory.ofBytes] using Memory.read_ofBytesFrom bs 0 i

/-- Storing a list of bytes leaves the other offsets as they read. -/
theorem Memory.read_writeBytes_other (bs : List Byte) (m : Memory) {k j : Nat} (h : j < k ∨ k + bs.length ≤ j) :
    (m.writeBytes k bs).read j = m.read j := by
  induction bs generalizing m k with
  | nil => rfl
  | cons b bs ih =>
    rw [List.length_cons] at h
    unfold Memory.writeBytes
    rw [ih _ (by omega), Memory.read_write_other m b (by omega)]

/-- What a list of bytes stores is read back. -/
theorem Memory.read_writeBytes (bs : List Byte) {m : Memory} (h : m.wf = true) (k : Nat) {i : Nat} (hi : i < bs.length) :
    (m.writeBytes k bs).read (k + i) = bs.getD i 0 := by
  induction bs generalizing m k i with
  | nil => exact absurd hi (Nat.not_lt_zero i)
  | cons b bs ih =>
    rw [List.length_cons] at hi
    unfold Memory.writeBytes
    cases i with
    | zero => rw [Memory.read_writeBytes_other bs _ (by omega), Nat.add_zero, Memory.read_write_self h]; rfl
    | succ i => rw [show k + (i + 1) = k + 1 + i by omega, ih (Memory.write_wf h k b) (k + 1) (by omega)]; rfl

end Sys2Proof.Machine
end

