-- ==== Sys2Proof/Laws/State.lean ====
section
/-! SUPPORT. One lemma per field for each update of the registers and of time, true by rfl, so that no later proof unfolds one. -/

namespace Sys2Proof.Machine

/-! ### `setA` -/

@[simp] theorem setA_a (v : Byte) (s : State) : (setA v s).cpu.a = v := rfl
@[simp] theorem setA_x (v : Byte) (s : State) : (setA v s).cpu.x = s.cpu.x := rfl
@[simp] theorem setA_y (v : Byte) (s : State) : (setA v s).cpu.y = s.cpu.y := rfl
@[simp] theorem setA_sp (v : Byte) (s : State) : (setA v s).cpu.sp = s.cpu.sp := rfl
@[simp] theorem setA_pc (v : Byte) (s : State) : (setA v s).cpu.pc = s.cpu.pc := rfl
@[simp] theorem setA_f (v : Byte) (s : State) : (setA v s).cpu.f = s.cpu.f := rfl
@[simp] theorem setA_run (v : Byte) (s : State) : (setA v s).run = s.run := rfl
@[simp] theorem setA_pages (v : Byte) (s : State) : (setA v s).pages = s.pages := rfl
@[simp] theorem setA_mem (v : Byte) (s : State) : (setA v s).mem = s.mem := rfl
@[simp] theorem setA_ppu (v : Byte) (s : State) : (setA v s).ppu = s.ppu := rfl
@[simp] theorem setA_apu (v : Byte) (s : State) : (setA v s).apu = s.apu := rfl
@[simp] theorem setA_cart (v : Byte) (s : State) : (setA v s).cart = s.cart := rfl
@[simp] theorem setA_mmc1 (v : Byte) (s : State) : (setA v s).mmc1 = s.mmc1 := rfl
@[simp] theorem setA_mmc3 (v : Byte) (s : State) : (setA v s).mmc3 = s.mmc3 := rfl
@[simp] theorem setA_orch (v : Byte) (s : State) : (setA v s).orch = s.orch := rfl
@[simp] theorem setA_fiq (v : Byte) (s : State) : (setA v s).fiq = s.fiq := rfl
@[simp] theorem setA_pads (v : Byte) (s : State) : (setA v s).pads = s.pads := rfl
@[simp] theorem setA_host (v : Byte) (s : State) : (setA v s).host = s.host := rfl
@[simp] theorem setA_draws (v : Byte) (s : State) : (setA v s).draws = s.draws := rfl
@[simp] theorem setA_undocPolicy (v : Byte) (s : State) : (setA v s).undocPolicy = s.undocPolicy := rfl
@[simp] theorem setA_fiqRestart (v : Byte) (s : State) : (setA v s).fiqRestart = s.fiqRestart := rfl

/-! ### `setX` -/

@[simp] theorem setX_a (v : Byte) (s : State) : (setX v s).cpu.a = s.cpu.a := rfl
@[simp] theorem setX_x (v : Byte) (s : State) : (setX v s).cpu.x = v := rfl
@[simp] theorem setX_y (v : Byte) (s : State) : (setX v s).cpu.y = s.cpu.y := rfl
@[simp] theorem setX_sp (v : Byte) (s : State) : (setX v s).cpu.sp = s.cpu.sp := rfl
@[simp] theorem setX_pc (v : Byte) (s : State) : (setX v s).cpu.pc = s.cpu.pc := rfl
@[simp] theorem setX_f (v : Byte) (s : State) : (setX v s).cpu.f = s.cpu.f := rfl
@[simp] theorem setX_run (v : Byte) (s : State) : (setX v s).run = s.run := rfl
@[simp] theorem setX_pages (v : Byte) (s : State) : (setX v s).pages = s.pages := rfl
@[simp] theorem setX_mem (v : Byte) (s : State) : (setX v s).mem = s.mem := rfl
@[simp] theorem setX_ppu (v : Byte) (s : State) : (setX v s).ppu = s.ppu := rfl
@[simp] theorem setX_apu (v : Byte) (s : State) : (setX v s).apu = s.apu := rfl
@[simp] theorem setX_cart (v : Byte) (s : State) : (setX v s).cart = s.cart := rfl
@[simp] theorem setX_mmc1 (v : Byte) (s : State) : (setX v s).mmc1 = s.mmc1 := rfl
@[simp] theorem setX_mmc3 (v : Byte) (s : State) : (setX v s).mmc3 = s.mmc3 := rfl
@[simp] theorem setX_orch (v : Byte) (s : State) : (setX v s).orch = s.orch := rfl
@[simp] theorem setX_fiq (v : Byte) (s : State) : (setX v s).fiq = s.fiq := rfl
@[simp] theorem setX_pads (v : Byte) (s : State) : (setX v s).pads = s.pads := rfl
@[simp] theorem setX_host (v : Byte) (s : State) : (setX v s).host = s.host := rfl
@[simp] theorem setX_draws (v : Byte) (s : State) : (setX v s).draws = s.draws := rfl
@[simp] theorem setX_undocPolicy (v : Byte) (s : State) : (setX v s).undocPolicy = s.undocPolicy := rfl
@[simp] theorem setX_fiqRestart (v : Byte) (s : State) : (setX v s).fiqRestart = s.fiqRestart := rfl

/-! ### `setY` -/

@[simp] theorem setY_a (v : Byte) (s : State) : (setY v s).cpu.a = s.cpu.a := rfl
@[simp] theorem setY_x (v : Byte) (s : State) : (setY v s).cpu.x = s.cpu.x := rfl
@[simp] theorem setY_y (v : Byte) (s : State) : (setY v s).cpu.y = v := rfl
@[simp] theorem setY_sp (v : Byte) (s : State) : (setY v s).cpu.sp = s.cpu.sp := rfl
@[simp] theorem setY_pc (v : Byte) (s : State) : (setY v s).cpu.pc = s.cpu.pc := rfl
@[simp] theorem setY_f (v : Byte) (s : State) : (setY v s).cpu.f = s.cpu.f := rfl
@[simp] theorem setY_run (v : Byte) (s : State) : (setY v s).run = s.run := rfl
@[simp] theorem setY_pages (v : Byte) (s : State) : (setY v s).pages = s.pages := rfl
@[simp] theorem setY_mem (v : Byte) (s : State) : (setY v s).mem = s.mem := rfl
@[simp] theorem setY_ppu (v : Byte) (s : State) : (setY v s).ppu = s.ppu := rfl
@[simp] theorem setY_apu (v : Byte) (s : State) : (setY v s).apu = s.apu := rfl
@[simp] theorem setY_cart (v : Byte) (s : State) : (setY v s).cart = s.cart := rfl
@[simp] theorem setY_mmc1 (v : Byte) (s : State) : (setY v s).mmc1 = s.mmc1 := rfl
@[simp] theorem setY_mmc3 (v : Byte) (s : State) : (setY v s).mmc3 = s.mmc3 := rfl
@[simp] theorem setY_orch (v : Byte) (s : State) : (setY v s).orch = s.orch := rfl
@[simp] theorem setY_fiq (v : Byte) (s : State) : (setY v s).fiq = s.fiq := rfl
@[simp] theorem setY_pads (v : Byte) (s : State) : (setY v s).pads = s.pads := rfl
@[simp] theorem setY_host (v : Byte) (s : State) : (setY v s).host = s.host := rfl
@[simp] theorem setY_draws (v : Byte) (s : State) : (setY v s).draws = s.draws := rfl
@[simp] theorem setY_undocPolicy (v : Byte) (s : State) : (setY v s).undocPolicy = s.undocPolicy := rfl
@[simp] theorem setY_fiqRestart (v : Byte) (s : State) : (setY v s).fiqRestart = s.fiqRestart := rfl

/-! ### `setSp` -/

@[simp] theorem setSp_a (v : Byte) (s : State) : (setSp v s).cpu.a = s.cpu.a := rfl
@[simp] theorem setSp_x (v : Byte) (s : State) : (setSp v s).cpu.x = s.cpu.x := rfl
@[simp] theorem setSp_y (v : Byte) (s : State) : (setSp v s).cpu.y = s.cpu.y := rfl
@[simp] theorem setSp_sp (v : Byte) (s : State) : (setSp v s).cpu.sp = v := rfl
@[simp] theorem setSp_pc (v : Byte) (s : State) : (setSp v s).cpu.pc = s.cpu.pc := rfl
@[simp] theorem setSp_f (v : Byte) (s : State) : (setSp v s).cpu.f = s.cpu.f := rfl
@[simp] theorem setSp_run (v : Byte) (s : State) : (setSp v s).run = s.run := rfl
@[simp] theorem setSp_pages (v : Byte) (s : State) : (setSp v s).pages = s.pages := rfl
@[simp] theorem setSp_mem (v : Byte) (s : State) : (setSp v s).mem = s.mem := rfl
@[simp] theorem setSp_ppu (v : Byte) (s : State) : (setSp v s).ppu = s.ppu := rfl
@[simp] theorem setSp_apu (v : Byte) (s : State) : (setSp v s).apu = s.apu := rfl
@[simp] theorem setSp_cart (v : Byte) (s : State) : (setSp v s).cart = s.cart := rfl
@[simp] theorem setSp_mmc1 (v : Byte) (s : State) : (setSp v s).mmc1 = s.mmc1 := rfl
@[simp] theorem setSp_mmc3 (v : Byte) (s : State) : (setSp v s).mmc3 = s.mmc3 := rfl
@[simp] theorem setSp_orch (v : Byte) (s : State) : (setSp v s).orch = s.orch := rfl
@[simp] theorem setSp_fiq (v : Byte) (s : State) : (setSp v s).fiq = s.fiq := rfl
@[simp] theorem setSp_pads (v : Byte) (s : State) : (setSp v s).pads = s.pads := rfl
@[simp] theorem setSp_host (v : Byte) (s : State) : (setSp v s).host = s.host := rfl
@[simp] theorem setSp_draws (v : Byte) (s : State) : (setSp v s).draws = s.draws := rfl
@[simp] theorem setSp_undocPolicy (v : Byte) (s : State) : (setSp v s).undocPolicy = s.undocPolicy := rfl
@[simp] theorem setSp_fiqRestart (v : Byte) (s : State) : (setSp v s).fiqRestart = s.fiqRestart := rfl

/-! ### `setPc` -/

@[simp] theorem setPc_a (v : Addr) (s : State) : (setPc v s).cpu.a = s.cpu.a := rfl
@[simp] theorem setPc_x (v : Addr) (s : State) : (setPc v s).cpu.x = s.cpu.x := rfl
@[simp] theorem setPc_y (v : Addr) (s : State) : (setPc v s).cpu.y = s.cpu.y := rfl
@[simp] theorem setPc_sp (v : Addr) (s : State) : (setPc v s).cpu.sp = s.cpu.sp := rfl
@[simp] theorem setPc_pc (v : Addr) (s : State) : (setPc v s).cpu.pc = v := rfl
@[simp] theorem setPc_f (v : Addr) (s : State) : (setPc v s).cpu.f = s.cpu.f := rfl
@[simp] theorem setPc_run (v : Addr) (s : State) : (setPc v s).run = s.run := rfl
@[simp] theorem setPc_pages (v : Addr) (s : State) : (setPc v s).pages = s.pages := rfl
@[simp] theorem setPc_mem (v : Addr) (s : State) : (setPc v s).mem = s.mem := rfl
@[simp] theorem setPc_ppu (v : Addr) (s : State) : (setPc v s).ppu = s.ppu := rfl
@[simp] theorem setPc_apu (v : Addr) (s : State) : (setPc v s).apu = s.apu := rfl
@[simp] theorem setPc_cart (v : Addr) (s : State) : (setPc v s).cart = s.cart := rfl
@[simp] theorem setPc_mmc1 (v : Addr) (s : State) : (setPc v s).mmc1 = s.mmc1 := rfl
@[simp] theorem setPc_mmc3 (v : Addr) (s : State) : (setPc v s).mmc3 = s.mmc3 := rfl
@[simp] theorem setPc_orch (v : Addr) (s : State) : (setPc v s).orch = s.orch := rfl
@[simp] theorem setPc_fiq (v : Addr) (s : State) : (setPc v s).fiq = s.fiq := rfl
@[simp] theorem setPc_pads (v : Addr) (s : State) : (setPc v s).pads = s.pads := rfl
@[simp] theorem setPc_host (v : Addr) (s : State) : (setPc v s).host = s.host := rfl
@[simp] theorem setPc_draws (v : Addr) (s : State) : (setPc v s).draws = s.draws := rfl
@[simp] theorem setPc_undocPolicy (v : Addr) (s : State) : (setPc v s).undocPolicy = s.undocPolicy := rfl
@[simp] theorem setPc_fiqRestart (v : Addr) (s : State) : (setPc v s).fiqRestart = s.fiqRestart := rfl

/-! ### `setFlags` -/

@[simp] theorem setFlags_a (g : Flags) (s : State) : (setFlags g s).cpu.a = s.cpu.a := rfl
@[simp] theorem setFlags_x (g : Flags) (s : State) : (setFlags g s).cpu.x = s.cpu.x := rfl
@[simp] theorem setFlags_y (g : Flags) (s : State) : (setFlags g s).cpu.y = s.cpu.y := rfl
@[simp] theorem setFlags_sp (g : Flags) (s : State) : (setFlags g s).cpu.sp = s.cpu.sp := rfl
@[simp] theorem setFlags_pc (g : Flags) (s : State) : (setFlags g s).cpu.pc = s.cpu.pc := rfl
@[simp] theorem setFlags_f (g : Flags) (s : State) : (setFlags g s).cpu.f = g := rfl
@[simp] theorem setFlags_run (g : Flags) (s : State) : (setFlags g s).run = s.run := rfl
@[simp] theorem setFlags_pages (g : Flags) (s : State) : (setFlags g s).pages = s.pages := rfl
@[simp] theorem setFlags_mem (g : Flags) (s : State) : (setFlags g s).mem = s.mem := rfl
@[simp] theorem setFlags_ppu (g : Flags) (s : State) : (setFlags g s).ppu = s.ppu := rfl
@[simp] theorem setFlags_apu (g : Flags) (s : State) : (setFlags g s).apu = s.apu := rfl
@[simp] theorem setFlags_cart (g : Flags) (s : State) : (setFlags g s).cart = s.cart := rfl
@[simp] theorem setFlags_mmc1 (g : Flags) (s : State) : (setFlags g s).mmc1 = s.mmc1 := rfl
@[simp] theorem setFlags_mmc3 (g : Flags) (s : State) : (setFlags g s).mmc3 = s.mmc3 := rfl
@[simp] theorem setFlags_orch (g : Flags) (s : State) : (setFlags g s).orch = s.orch := rfl
@[simp] theorem setFlags_fiq (g : Flags) (s : State) : (setFlags g s).fiq = s.fiq := rfl
@[simp] theorem setFlags_pads (g : Flags) (s : State) : (setFlags g s).pads = s.pads := rfl
@[simp] theorem setFlags_host (g : Flags) (s : State) : (setFlags g s).host = s.host := rfl
@[simp] theorem setFlags_draws (g : Flags) (s : State) : (setFlags g s).draws = s.draws := rfl
@[simp] theorem setFlags_undocPolicy (g : Flags) (s : State) : (setFlags g s).undocPolicy = s.undocPolicy := rfl
@[simp] theorem setFlags_fiqRestart (g : Flags) (s : State) : (setFlags g s).fiqRestart = s.fiqRestart := rfl

/-! ### `setNZ` -/

@[simp] theorem setNZ_a (v : Byte) (s : State) : (setNZ v s).cpu.a = s.cpu.a := rfl
@[simp] theorem setNZ_x (v : Byte) (s : State) : (setNZ v s).cpu.x = s.cpu.x := rfl
@[simp] theorem setNZ_y (v : Byte) (s : State) : (setNZ v s).cpu.y = s.cpu.y := rfl
@[simp] theorem setNZ_sp (v : Byte) (s : State) : (setNZ v s).cpu.sp = s.cpu.sp := rfl
@[simp] theorem setNZ_pc (v : Byte) (s : State) : (setNZ v s).cpu.pc = s.cpu.pc := rfl
@[simp] theorem setNZ_f (v : Byte) (s : State) : (setNZ v s).cpu.f = s.cpu.f.setNZ v := rfl
@[simp] theorem setNZ_run (v : Byte) (s : State) : (setNZ v s).run = s.run := rfl
@[simp] theorem setNZ_pages (v : Byte) (s : State) : (setNZ v s).pages = s.pages := rfl
@[simp] theorem setNZ_mem (v : Byte) (s : State) : (setNZ v s).mem = s.mem := rfl
@[simp] theorem setNZ_ppu (v : Byte) (s : State) : (setNZ v s).ppu = s.ppu := rfl
@[simp] theorem setNZ_apu (v : Byte) (s : State) : (setNZ v s).apu = s.apu := rfl
@[simp] theorem setNZ_cart (v : Byte) (s : State) : (setNZ v s).cart = s.cart := rfl
@[simp] theorem setNZ_mmc1 (v : Byte) (s : State) : (setNZ v s).mmc1 = s.mmc1 := rfl
@[simp] theorem setNZ_mmc3 (v : Byte) (s : State) : (setNZ v s).mmc3 = s.mmc3 := rfl
@[simp] theorem setNZ_orch (v : Byte) (s : State) : (setNZ v s).orch = s.orch := rfl
@[simp] theorem setNZ_fiq (v : Byte) (s : State) : (setNZ v s).fiq = s.fiq := rfl
@[simp] theorem setNZ_pads (v : Byte) (s : State) : (setNZ v s).pads = s.pads := rfl
@[simp] theorem setNZ_host (v : Byte) (s : State) : (setNZ v s).host = s.host := rfl
@[simp] theorem setNZ_draws (v : Byte) (s : State) : (setNZ v s).draws = s.draws := rfl
@[simp] theorem setNZ_undocPolicy (v : Byte) (s : State) : (setNZ v s).undocPolicy = s.undocPolicy := rfl
@[simp] theorem setNZ_fiqRestart (v : Byte) (s : State) : (setNZ v s).fiqRestart = s.fiqRestart := rfl

/-! ### `charge` -/

@[simp] theorem charge_cycles (k : Nat) (s : State) : (charge k s).run.cycles = s.run.cycles + k := rfl
@[simp] theorem charge_remaining (k : Nat) (s : State) : (charge k s).run.remaining = s.run.remaining - k := rfl
@[simp] theorem charge_burn (k : Nat) (s : State) : (charge k s).run.burn = s.run.burn := rfl
@[simp] theorem charge_intPending (k : Nat) (s : State) : (charge k s).run.intPending = s.run.intPending := rfl
@[simp] theorem charge_jammed (k : Nat) (s : State) : (charge k s).run.jammed = s.run.jammed := rfl
@[simp] theorem charge_refused (k : Nat) (s : State) : (charge k s).run.refused = s.run.refused := rfl
@[simp] theorem charge_cpu (k : Nat) (s : State) : (charge k s).cpu = s.cpu := rfl
@[simp] theorem charge_pages (k : Nat) (s : State) : (charge k s).pages = s.pages := rfl
@[simp] theorem charge_mem (k : Nat) (s : State) : (charge k s).mem = s.mem := rfl
@[simp] theorem charge_ppu (k : Nat) (s : State) : (charge k s).ppu = s.ppu := rfl
@[simp] theorem charge_apu (k : Nat) (s : State) : (charge k s).apu = s.apu := rfl
@[simp] theorem charge_cart (k : Nat) (s : State) : (charge k s).cart = s.cart := rfl
@[simp] theorem charge_mmc1 (k : Nat) (s : State) : (charge k s).mmc1 = s.mmc1 := rfl
@[simp] theorem charge_mmc3 (k : Nat) (s : State) : (charge k s).mmc3 = s.mmc3 := rfl
@[simp] theorem charge_orch (k : Nat) (s : State) : (charge k s).orch = s.orch := rfl
@[simp] theorem charge_fiq (k : Nat) (s : State) : (charge k s).fiq = s.fiq := rfl
@[simp] theorem charge_pads (k : Nat) (s : State) : (charge k s).pads = s.pads := rfl
@[simp] theorem charge_host (k : Nat) (s : State) : (charge k s).host = s.host := rfl
@[simp] theorem charge_draws (k : Nat) (s : State) : (charge k s).draws = s.draws := rfl
@[simp] theorem charge_undocPolicy (k : Nat) (s : State) : (charge k s).undocPolicy = s.undocPolicy := rfl
@[simp] theorem charge_fiqRestart (k : Nat) (s : State) : (charge k s).fiqRestart = s.fiqRestart := rfl

/-! ### `takeDraw` -/

@[simp] theorem takeDraw_value (s : State) : (takeDraw s).1 = Config.draw s.draws := rfl
@[simp] theorem takeDraw_cpu (s : State) : (takeDraw s).2.cpu = s.cpu := rfl
@[simp] theorem takeDraw_run (s : State) : (takeDraw s).2.run = s.run := rfl
@[simp] theorem takeDraw_pages (s : State) : (takeDraw s).2.pages = s.pages := rfl
@[simp] theorem takeDraw_mem (s : State) : (takeDraw s).2.mem = s.mem := rfl
@[simp] theorem takeDraw_ppu (s : State) : (takeDraw s).2.ppu = s.ppu := rfl
@[simp] theorem takeDraw_apu (s : State) : (takeDraw s).2.apu = s.apu := rfl
@[simp] theorem takeDraw_cart (s : State) : (takeDraw s).2.cart = s.cart := rfl
@[simp] theorem takeDraw_mmc1 (s : State) : (takeDraw s).2.mmc1 = s.mmc1 := rfl
@[simp] theorem takeDraw_mmc3 (s : State) : (takeDraw s).2.mmc3 = s.mmc3 := rfl
@[simp] theorem takeDraw_orch (s : State) : (takeDraw s).2.orch = s.orch := rfl
@[simp] theorem takeDraw_fiq (s : State) : (takeDraw s).2.fiq = s.fiq := rfl
@[simp] theorem takeDraw_pads (s : State) : (takeDraw s).2.pads = s.pads := rfl
@[simp] theorem takeDraw_host (s : State) : (takeDraw s).2.host = s.host := rfl
@[simp] theorem takeDraw_draws (s : State) : (takeDraw s).2.draws = s.draws + 1 := rfl
@[simp] theorem takeDraw_undocPolicy (s : State) : (takeDraw s).2.undocPolicy = s.undocPolicy := rfl
@[simp] theorem takeDraw_fiqRestart (s : State) : (takeDraw s).2.fiqRestart = s.fiqRestart := rfl

/-! ### `addBurn` -/

@[simp] theorem addBurn_cycles (k : Nat) (s : State) : (addBurn k s).run.cycles = s.run.cycles := by
  unfold addBurn; split <;> rfl
@[simp] theorem addBurn_remaining (k : Nat) (s : State) : (addBurn k s).run.remaining = s.run.remaining := by
  unfold addBurn; split <;> rfl
theorem addBurn_burn (k : Nat) (s : State) (h : s.run.refused = false) : (addBurn k s).run.burn = s.run.burn + k := by
  unfold addBurn; rw [h]; rfl
@[simp] theorem addBurn_intPending (k : Nat) (s : State) : (addBurn k s).run.intPending = s.run.intPending := by
  unfold addBurn; split <;> rfl
@[simp] theorem addBurn_jammed (k : Nat) (s : State) : (addBurn k s).run.jammed = s.run.jammed := by
  unfold addBurn; split <;> rfl
@[simp] theorem addBurn_refused (k : Nat) (s : State) : (addBurn k s).run.refused = s.run.refused := by
  unfold addBurn; split <;> rfl
@[simp] theorem addBurn_cpu (k : Nat) (s : State) : (addBurn k s).cpu = s.cpu := by
  unfold addBurn; split <;> rfl
@[simp] theorem addBurn_pages (k : Nat) (s : State) : (addBurn k s).pages = s.pages := by
  unfold addBurn; split <;> rfl
@[simp] theorem addBurn_mem (k : Nat) (s : State) : (addBurn k s).mem = s.mem := by
  unfold addBurn; split <;> rfl
@[simp] theorem addBurn_ppu (k : Nat) (s : State) : (addBurn k s).ppu = s.ppu := by
  unfold addBurn; split <;> rfl
@[simp] theorem addBurn_apu (k : Nat) (s : State) : (addBurn k s).apu = s.apu := by
  unfold addBurn; split <;> rfl
@[simp] theorem addBurn_cart (k : Nat) (s : State) : (addBurn k s).cart = s.cart := by
  unfold addBurn; split <;> rfl
@[simp] theorem addBurn_mmc1 (k : Nat) (s : State) : (addBurn k s).mmc1 = s.mmc1 := by
  unfold addBurn; split <;> rfl
@[simp] theorem addBurn_mmc3 (k : Nat) (s : State) : (addBurn k s).mmc3 = s.mmc3 := by
  unfold addBurn; split <;> rfl
@[simp] theorem addBurn_orch (k : Nat) (s : State) : (addBurn k s).orch = s.orch := by
  unfold addBurn; split <;> rfl
@[simp] theorem addBurn_fiq (k : Nat) (s : State) : (addBurn k s).fiq = s.fiq := by
  unfold addBurn; split <;> rfl
@[simp] theorem addBurn_pads (k : Nat) (s : State) : (addBurn k s).pads = s.pads := by
  unfold addBurn; split <;> rfl
@[simp] theorem addBurn_host (k : Nat) (s : State) : (addBurn k s).host = s.host := by
  unfold addBurn; split <;> rfl
@[simp] theorem addBurn_draws (k : Nat) (s : State) : (addBurn k s).draws = s.draws := by
  unfold addBurn; split <;> rfl
@[simp] theorem addBurn_undocPolicy (k : Nat) (s : State) : (addBurn k s).undocPolicy = s.undocPolicy := by
  unfold addBurn; split <;> rfl
@[simp] theorem addBurn_fiqRestart (k : Nat) (s : State) : (addBurn k s).fiqRestart = s.fiqRestart := by
  unfold addBurn; split <;> rfl

/-! ### `release` -/

@[simp] theorem release_cycles (s : State) : (release s).run.cycles = s.run.cycles := by
  unfold release; split <;> rfl
theorem release_remaining (s : State) (h : s.run.refused = false) : (release s).run.remaining = 0 := by
  unfold release; rw [h]; rfl
@[simp] theorem release_burn (s : State) : (release s).run.burn = s.run.burn := by
  unfold release; split <;> rfl
@[simp] theorem release_intPending (s : State) : (release s).run.intPending = s.run.intPending := by
  unfold release; split <;> rfl
@[simp] theorem release_jammed (s : State) : (release s).run.jammed = s.run.jammed := by
  unfold release; split <;> rfl
@[simp] theorem release_refused (s : State) : (release s).run.refused = s.run.refused := by
  unfold release; split <;> rfl
@[simp] theorem release_cpu (s : State) : (release s).cpu = s.cpu := by
  unfold release; split <;> rfl
@[simp] theorem release_pages (s : State) : (release s).pages = s.pages := by
  unfold release; split <;> rfl
@[simp] theorem release_mem (s : State) : (release s).mem = s.mem := by
  unfold release; split <;> rfl
@[simp] theorem release_ppu (s : State) : (release s).ppu = s.ppu := by
  unfold release; split <;> rfl
@[simp] theorem release_apu (s : State) : (release s).apu = s.apu := by
  unfold release; split <;> rfl
@[simp] theorem release_cart (s : State) : (release s).cart = s.cart := by
  unfold release; split <;> rfl
@[simp] theorem release_mmc1 (s : State) : (release s).mmc1 = s.mmc1 := by
  unfold release; split <;> rfl
@[simp] theorem release_mmc3 (s : State) : (release s).mmc3 = s.mmc3 := by
  unfold release; split <;> rfl
@[simp] theorem release_orch (s : State) : (release s).orch = s.orch := by
  unfold release; split <;> rfl
@[simp] theorem release_fiq (s : State) : (release s).fiq = s.fiq := by
  unfold release; split <;> rfl
@[simp] theorem release_pads (s : State) : (release s).pads = s.pads := by
  unfold release; split <;> rfl
@[simp] theorem release_host (s : State) : (release s).host = s.host := by
  unfold release; split <;> rfl
@[simp] theorem release_draws (s : State) : (release s).draws = s.draws := by
  unfold release; split <;> rfl
@[simp] theorem release_undocPolicy (s : State) : (release s).undocPolicy = s.undocPolicy := by
  unfold release; split <;> rfl
@[simp] theorem release_fiqRestart (s : State) : (release s).fiqRestart = s.fiqRestart := by
  unfold release; split <;> rfl

/-! ### The flags -/

@[simp] theorem Flags.setNZ_n (f : Flags) (v : Byte) : (f.setNZ v).n = v.getLsbD 7 := rfl
@[simp] theorem Flags.setNZ_z (f : Flags) (v : Byte) : (f.setNZ v).z = decide (v = 0) := rfl
@[simp] theorem Flags.setNZ_v (f : Flags) (v : Byte) : (f.setNZ v).v = f.v := rfl
@[simp] theorem Flags.setNZ_d (f : Flags) (v : Byte) : (f.setNZ v).d = f.d := rfl
@[simp] theorem Flags.setNZ_i (f : Flags) (v : Byte) : (f.setNZ v).i = f.i := rfl
@[simp] theorem Flags.setNZ_c (f : Flags) (v : Byte) : (f.setNZ v).c = f.c := rfl

@[simp] theorem finish_eq (k : Nat) (s : State) : finish k s = .next (charge k s) := rfl

end Sys2Proof.Machine
end

