-- ==== Sys2Proof/Laws/Bus.lean ====
section
/-! SUPPORT. What one bus access can do: reads of plain memory, the frame of every read and of every write, and the canonical form
under the writes of the bus. -/

namespace Sys2Proof.Machine

/-! ### Reads -/

theorem ReadFrame.refl (s : State) : ReadFrame s s := ⟨rfl, rfl, rfl, rfl, rfl, rfl, rfl, rfl, rfl, rfl, rfl, rfl, rfl, rfl⟩

theorem ReadFrame.trans {s t u : State} (h : ReadFrame s t) (g : ReadFrame t u) : ReadFrame s u where
  cpu := g.cpu.trans h.cpu
  run := g.run.trans h.run
  pages := g.pages.trans h.pages
  mem := g.mem.trans h.mem
  ppu := by rw [g.ppu, h.ppu]
  apu := g.apu.trans h.apu
  cart := g.cart.trans h.cart
  mmc1 := g.mmc1.trans h.mmc1
  mmc3 := g.mmc3.trans h.mmc3
  orch := g.orch.trans h.orch
  fiq := by rw [g.fiq, h.fiq]
  host := g.host.trans h.host
  undocPolicy := g.undocPolicy.trans h.undocPolicy
  fiqRestart := g.fiqRestart.trans h.fiqRestart

theorem takeDraw_frame (s : State) : ReadFrame s (takeDraw s).2 := ⟨rfl, rfl, rfl, rfl, rfl, rfl, rfl, rfl, rfl, rfl, rfl, rfl, rfl, rfl⟩

theorem pageRead_frame (a : Addr) (s : State) : ReadFrame s (pageRead a s).2 := by
  unfold pageRead
  split <;> first | exact ReadFrame.refl s | exact takeDraw_frame s

theorem ppuRegRead_frame (a : Addr) (s : State) : ReadFrame s (ppuRegRead a s).2 := by
  unfold ppuRegRead
  split
  · exact ⟨rfl, rfl, rfl, rfl, rfl, rfl, rfl, rfl, rfl, rfl, rfl, rfl, rfl, rfl⟩
  · exact ReadFrame.refl s
  · unfold readVramData
    dsimp only
    split <;> exact ⟨rfl, rfl, rfl, rfl, rfl, rfl, rfl, rfl, rfl, rfl, rfl, rfl, rfl, rfl⟩
  · exact takeDraw_frame s

theorem apuRead_frame (a : Addr) (s : State) : ReadFrame s (apuRead a s).2 := by
  unfold apuRead
  dsimp only
  split <;> exact ⟨rfl, rfl, rfl, rfl, rfl, rfl, rfl, rfl, rfl, rfl, rfl, rfl, rfl, rfl⟩

theorem padRead_frame (p : Nat) (s : State) : ReadFrame s (padRead p s).2 := by
  unfold padRead
  dsimp only
  split <;> exact ⟨rfl, rfl, rfl, rfl, rfl, rfl, rfl, rfl, rfl, rfl, rfl, rfl, rfl, rfl⟩

/-- A bus read has only the read effects of 20_memory.md R139. -/
theorem memRead_frame (a : Addr) (s : State) : ReadFrame s (memRead a s).2 := by
  unfold memRead
  split
  · exact ReadFrame.refl s
  · split
    · exact pageRead_frame a s
    · split
      · next h _ =>
        cases h
        · exact ReadFrame.refl s
        · exact ppuRegRead_frame a s
        · exact apuRead_frame a s
        · unfold ReadHandler.run
          exact padRead_frame _ s
      · exact pageRead_frame a s

theorem memRead16_frame (a : Addr) (s : State) : ReadFrame s (memRead16 a s).2 :=
  (memRead_frame a s).trans (memRead_frame (a + 1) _)

/-- A read of CPU RAM or of its mirrors gives the byte of the RAM cell and changes nothing (20_memory.md R131, R138). -/
theorem memRead_ram {a : Addr} (h : a.toNat < 0x2000) (s : State) : memRead a s = (s.mem.ram.read (a.toNat % 2048), s) := by
  unfold memRead
  split
  · next h' =>
    have e : a.toNat % 2048 = a.toNat := Nat.mod_eq_of_lt h'
    rw [e]
  · next h' =>
    rw [if_neg (by omega)]
    have : readTable.lookup a.toNat = some .ramMirror := by
      unfold readTable HandlerTable.lookup
      rw [if_pos ⟨by omega, by omega⟩]
    rw [this]
    rfl

/-- The page table serves the reads from $4018 on (20_memory.md R131, R136). -/
theorem memRead_page {a : Addr} (h : 0x4018 ≤ a.toNat) (s : State) : memRead a s = pageRead a s := by
  unfold memRead
  rw [if_neg (by omega)]
  split
  · rfl
  · have : readTable.lookup a.toNat = none := by
      simp only [readTable, HandlerTable.lookup]
      repeat rw [if_neg (by omega)]
    rw [this]

/-- $2000-$3FFF reads are PPU register reads (20_memory.md R136). -/
theorem memRead_ppuReg {a : Addr} (h1 : 0x2000 ≤ a.toNat) (h2 : a.toNat < 0x4000) (s : State) : memRead a s = ppuRegRead a s := by
  unfold memRead
  rw [if_neg (by omega), if_neg (by omega)]
  have : readTable.lookup a.toNat = some .ppuReg := by
    simp only [readTable, HandlerTable.lookup]
    rw [if_neg (by omega), if_pos (by omega)]
  rw [this]
  rfl

/-- $2000-$3FFF writes are PPU register writes (20_memory.md R137). -/
theorem memWrite_ppuReg {a : Addr} (h1 : 0x2000 ≤ a.toNat) (h2 : a.toNat < 0x4000) (d : Byte) (s : State) :
    memWrite a d s = ppuRegWrite a d s := by
  unfold memWrite
  rw [if_neg (by omega)]
  have : (writeTable s.cart.mapper).lookup a.toNat = some .ppuReg := by
    simp only [writeTable, defaultWriteTable, List.cons_append, HandlerTable.lookup]
    rw [if_neg (by omega), if_pos (by omega)]
  rw [this]
  rfl

/-- $4000-$4013 writes are APU register writes (20_memory.md R137). -/
theorem memWrite_apuReg {a : Addr} (h1 : 0x4000 ≤ a.toNat) (h2 : a.toNat < 0x4014) (d : Byte) (s : State) :
    memWrite a d s = apuRegWrite a d s := by
  unfold memWrite
  rw [if_neg (by omega)]
  have : (writeTable s.cart.mapper).lookup a.toNat = some .apuReg := by
    simp only [writeTable, defaultWriteTable, List.cons_append, HandlerTable.lookup]
    rw [if_neg (by omega), if_neg (by omega), if_pos (by omega)]
  rw [this]
  rfl

/-- A read of plain memory gives the byte kept there and changes nothing. -/
theorem memRead_of_peek {a : Addr} {s : State} {b : Byte} (h : peek a s = some b) : memRead a s = (b, s) := by
  unfold peek locate at h
  split at h
  · next ha =>
    rw [memRead_ram ha]
    simp only [Loc.byte, ramOffset, Option.some.injEq] at h
    rw [h]
  · split at h
    · simp [Loc.byte] at h
    · rw [memRead_page (by omega)]
      unfold pageLoc at h
      unfold pageRead
      split at h <;> simp_all [Loc.byte]

/-- What a CPU address shows depends on the page table and the memories alone. -/
theorem peek_congr {s t : State} (hp : t.pages = s.pages) (hm : t.mem = s.mem) (a : Addr) : peek a t = peek a s := by
  unfold peek locate pageLoc
  rw [hp, hm]

theorem locate_congr {s t : State} (hp : t.pages = s.pages) (a : Addr) : locate a t = locate a s := by
  unfold locate pageLoc
  rw [hp]

/-- No byte of plain memory changes under reads. -/
theorem ReadFrame.sameBytes {s t : State} (h : ReadFrame s t) : SameBytes s t := fun b => peek_congr h.pages h.mem b

/-! ### Writes -/

theorem WriteFrame.refl (s : State) : WriteFrame s s := ⟨rfl, rfl, rfl, fun _ _ => rfl, rfl, rfl, rfl, rfl, rfl⟩

theorem WriteFrame.trans {s t u : State} (h : WriteFrame s t) (g : WriteFrame t u) : WriteFrame s u where
  cpu := g.cpu.trans h.cpu
  run := by rw [g.run, h.run]
  prg := g.prg.trans h.prg
  lowPages := fun i hi => (g.lowPages i hi).trans (h.lowPages i hi)
  cart := g.cart.trans h.cart
  orch := g.orch.trans h.orch
  host := g.host.trans h.host
  undocPolicy := g.undocPolicy.trans h.undocPolicy
  fiqRestart := g.fiqRestart.trans h.fiqRestart

theorem ReadFrame.toWrite {s t : State} (h : ReadFrame s t) : WriteFrame s t where
  cpu := h.cpu
  run := by rw [h.run]
  prg := by rw [h.mem]
  lowPages := fun i _ => by rw [h.pages]
  cart := h.cart
  orch := h.orch
  host := h.host
  undocPolicy := h.undocPolicy
  fiqRestart := h.fiqRestart

/-- What a mapper's register write leaves unchanged: it changes the page tables and the mapper's own state. -/
structure MapFrame (s t : State) : Prop where
  cpu : t.cpu = s.cpu
  run : t.run = s.run
  mem : t.mem = s.mem
  ppu : t.ppu = { s.ppu with pages := t.ppu.pages }
  lowPages : ∀ i : Fin 16, i.val < 8 → t.pages.get i = s.pages.get i
  apu : t.apu = s.apu
  cart : t.cart = s.cart
  orch : t.orch = s.orch
  fiq : t.fiq = s.fiq
  pads : t.pads = s.pads
  host : t.host = s.host
  draws : t.draws = s.draws
  undocPolicy : t.undocPolicy = s.undocPolicy
  fiqRestart : t.fiqRestart = s.fiqRestart

theorem MapFrame.refl (s : State) : MapFrame s s :=
  ⟨rfl, rfl, rfl, rfl, fun _ _ => rfl, rfl, rfl, rfl, rfl, rfl, rfl, rfl, rfl, rfl⟩

theorem MapFrame.trans {s t u : State} (h : MapFrame s t) (g : MapFrame t u) : MapFrame s u where
  cpu := g.cpu.trans h.cpu
  run := g.run.trans h.run
  mem := g.mem.trans h.mem
  ppu := by rw [g.ppu, h.ppu]
  lowPages := fun i hi => (g.lowPages i hi).trans (h.lowPages i hi)
  apu := g.apu.trans h.apu
  cart := g.cart.trans h.cart
  orch := g.orch.trans h.orch
  fiq := g.fiq.trans h.fiq
  pads := g.pads.trans h.pads
  host := g.host.trans h.host
  draws := g.draws.trans h.draws
  undocPolicy := g.undocPolicy.trans h.undocPolicy
  fiqRestart := g.fiqRestart.trans h.fiqRestart

theorem MapFrame.toWrite {s t : State} (h : MapFrame s t) : WriteFrame s t where
  cpu := h.cpu
  run := by rw [h.run]
  prg := by rw [h.mem]
  lowPages := h.lowPages
  cart := h.cart
  orch := h.orch
  host := h.host
  undocPolicy := h.undocPolicy
  fiqRestart := h.fiqRestart

/-- The entries that `setPages` writes, and those it keeps. -/
theorem setPages_get (pages : Vector Page 16) (first count : Nat) (entry : Nat → Page) (i : Fin 16) :
    (setPages pages first entry count).get i =
      if first ≤ i.val ∧ i.val < first + count then entry (i.val - first) else pages.get i := by
  induction count with
  | zero => rw [if_neg (by omega)]; rfl
  | succ n ih =>
    simp only [setPages, Vector.get_eq_getElem] at ih ⊢
    rw [Vector.getElem_setIfInBounds]
    by_cases h : first + n = i.val
    · rw [if_pos h, if_pos (by omega), show i.val - first = n by omega]
    · rw [if_neg h, ih]
      by_cases h' : first ≤ i.val ∧ i.val < first + n
      · rw [if_pos h', if_pos (by omega)]
      · rw [if_neg h', if_neg (by omega)]

theorem setPpuPages_get (pages : Vector PpuPage 16) (first count : Nat) (entry : Nat → PpuPage) (i : Fin 16) :
    (setPpuPages pages first entry count).get i =
      if first ≤ i.val ∧ i.val < first + count then entry (i.val - first) else pages.get i := by
  induction count with
  | zero => rw [if_neg (by omega)]; rfl
  | succ n ih =>
    simp only [setPpuPages, Vector.get_eq_getElem] at ih ⊢
    rw [Vector.getElem_setIfInBounds]
    by_cases h : first + n = i.val
    · rw [if_pos h, if_pos (by omega), show i.val - first = n by omega]
    · rw [if_neg h, ih]
      by_cases h' : first ≤ i.val ∧ i.val < first + n
      · rw [if_pos h', if_pos (by omega)]
      · rw [if_neg h', if_neg (by omega)]

theorem bankPrg_frame (k a : Nat) (b : Bank) (s : State) (h : 0x8000 ≤ a) : MapFrame s (bankPrg k a b s) where
  cpu := rfl
  run := rfl
  mem := rfl
  ppu := rfl
  lowPages := fun i hi => by
    have : 8 ≤ a / 4096 := by omega
    unfold bankPrg
    dsimp only
    rw [setPages_get, if_neg (by omega)]
  apu := rfl
  cart := rfl
  orch := rfl
  fiq := rfl
  pads := rfl
  host := rfl
  draws := rfl
  undocPolicy := rfl
  fiqRestart := rfl

theorem ppuPages_frame (p : Vector PpuPage 16) (s : State) : MapFrame s { s with ppu := { s.ppu with pages := p } } :=
  ⟨rfl, rfl, rfl, rfl, fun _ _ => rfl, rfl, rfl, rfl, rfl, rfl, rfl, rfl, rfl, rfl⟩

theorem bankChr_frame (k a : Nat) (b : Bank) (s : State) : MapFrame s (bankChr k a b s) := ppuPages_frame _ s

theorem ppuMirror_frame (m : Mirror) (s : State) : MapFrame s (ppuMirror m s) := ppuPages_frame _ s

theorem mmc1Apply_frame (s : State) : MapFrame s (mmc1Apply s) := by
  have hm := ppuMirror_frame s.mmc1.mirror s
  have hp : ∀ u, MapFrame u (mmc1ApplyPrg u) := by
    intro u
    unfold mmc1ApplyPrg
    split
    · exact (bankPrg_frame _ _ _ _ (by omega)).trans (bankPrg_frame _ _ _ _ (by omega))
    · exact (bankPrg_frame _ _ _ _ (by omega)).trans (bankPrg_frame _ _ _ _ (by omega))
    · exact bankPrg_frame _ _ _ _ (by omega)
  have hc : ∀ u, MapFrame u (mmc1ApplyChr u) := by
    intro u
    unfold mmc1ApplyChr
    split
    · exact (bankChr_frame _ _ _ _).trans (bankChr_frame _ _ _ _)
    · exact bankChr_frame _ _ _ _
  exact (hm.trans (hp _)).trans (hc _)

theorem mmc3Apply_frame (s : State) : MapFrame s (mmc3Apply s) := by
  have hp : MapFrame s (mmc3ApplyPrg s) := by
    unfold mmc3ApplyPrg
    dsimp only
    split <;>
      exact (((bankPrg_frame _ _ _ _ (by omega)).trans (bankPrg_frame _ _ _ _ (by omega))).trans
        (bankPrg_frame _ _ _ _ (by omega))).trans (bankPrg_frame _ _ _ _ (by omega))
  have hc : ∀ u, MapFrame u (mmc3ApplyChr u) := by
    intro u
    unfold mmc3ApplyChr
    dsimp only
    refine MapFrame.trans ?_ (bankChr_frame _ _ _ _)
    refine MapFrame.trans ?_ (bankChr_frame _ _ _ _)
    refine MapFrame.trans ?_ (bankChr_frame _ _ _ _)
    refine MapFrame.trans ?_ (bankChr_frame _ _ _ _)
    refine MapFrame.trans ?_ (bankChr_frame _ _ _ _)
    refine MapFrame.trans ?_ (bankChr_frame _ _ _ _)
    exact (bankChr_frame _ _ _ _).trans (bankChr_frame _ _ _ _)
  exact hp.trans (hc _)

theorem mmc1Write_frame (a : Addr) (d : Byte) (s : State) : MapFrame s (mmc1Write a d s) := by
  have h : ∀ m, MapFrame s { s with mmc1 := m } :=
    fun m => ⟨rfl, rfl, rfl, rfl, fun _ _ => rfl, rfl, rfl, rfl, rfl, rfl, rfl, rfl, rfl, rfl⟩
  unfold mmc1Write
  dsimp only
  split
  · exact (h _).trans (mmc1Apply_frame _)
  · exact h _

theorem mmc3Write_frame (a : Addr) (d : Byte) (s : State) : MapFrame s (mmc3Write a d s) := by
  have h : ∀ m, MapFrame s { s with mmc3 := m } :=
    fun m => ⟨rfl, rfl, rfl, rfl, fun _ _ => rfl, rfl, rfl, rfl, rfl, rfl, rfl, rfl, rfl, rfl⟩
  unfold mmc3Write
  split
  · exact (h _).trans (mmc3Apply_frame _)
  · exact (h _).trans (mmc3Apply_frame _)
  · split
    · exact MapFrame.refl s
    · exact ppuMirror_frame _ s
  · exact MapFrame.refl s
  · exact h _
  · exact h _
  · exact h _
  · exact h _

/-- OAM DMA's copy reads the bus and writes OAM. -/
theorem oamDmaCopy_frame (d : Byte) (n i : Nat) (s : State) :
    WriteFrame s (oamDmaCopy d n i s) ∧ (oamDmaCopy d n i s).pages = s.pages ∧
      (oamDmaCopy d n i s).mem = { s.mem with oam := (oamDmaCopy d n i s).mem.oam } := by
  induction n generalizing i s with
  | zero => exact ⟨WriteFrame.refl s, rfl, rfl⟩
  | succ n ih =>
    unfold oamDmaCopy
    dsimp only
    have hr := memRead_frame (mkAddr d (BitVec.ofNat 8 i)) s
    obtain ⟨h1, h2, h3⟩ := ih (i + 1) { (memRead (mkAddr d (BitVec.ofNat 8 i)) s).2 with
      mem := { (memRead (mkAddr d (BitVec.ofNat 8 i)) s).2.mem with
        oam := (memRead (mkAddr d (BitVec.ofNat 8 i)) s).2.mem.oam.write
          ((memRead (mkAddr d (BitVec.ofNat 8 i)) s).2.ppu.oamaddr + BitVec.ofNat 8 i).toNat
          (memRead (mkAddr d (BitVec.ofNat 8 i)) s).1 } }
    refine ⟨hr.toWrite.trans (WriteFrame.trans ?_ h1), h2.trans hr.pages, ?_⟩
    · exact ⟨rfl, rfl, rfl, fun _ _ => rfl, rfl, rfl, rfl, rfl, rfl⟩
    · rw [h3]
      simp only [hr.mem]

theorem addBurn_frame (k : Nat) (s : State) : WriteFrame s (addBurn k s) := by
  unfold addBurn
  split
  · exact WriteFrame.refl s
  · exact ⟨rfl, rfl, rfl, fun _ _ => rfl, rfl, rfl, rfl, rfl, rfl⟩

theorem release_frame (s : State) : WriteFrame s (release s) := by
  unfold release
  split
  · exact WriteFrame.refl s
  · exact ⟨rfl, rfl, rfl, fun _ _ => rfl, rfl, rfl, rfl, rfl, rfl⟩

theorem ppuWrite_frame (a : PpuAddr) (d : Byte) (s : State) :
    ∃ c n p, ppuWrite a d s = { s with mem := { s.mem with chr := c, nt := n, pal := p } } := by
  unfold ppuWrite
  dsimp only
  split
  · exact ⟨_, _, _, rfl⟩
  · split
    · split
      · exact ⟨_, _, _, rfl⟩
      · exact ⟨s.mem.chr, s.mem.nt, s.mem.pal, rfl⟩
    · exact ⟨_, _, _, rfl⟩

/-- A PPU register write changes the PPU and the PPU's memories. -/
theorem ppuRegWrite_frame (a : Addr) (d : Byte) (s : State) :
    WriteFrame s (ppuRegWrite a d s) ∧ (ppuRegWrite a d s).pages = s.pages ∧
      (ppuRegWrite a d s).mem.ram = s.mem.ram ∧ (ppuRegWrite a d s).mem.sram = s.mem.sram := by
  unfold ppuRegWrite
  split
  · exact ⟨⟨rfl, rfl, rfl, fun _ _ => rfl, rfl, rfl, rfl, rfl, rfl⟩, rfl, rfl, rfl⟩
  · exact ⟨⟨rfl, rfl, rfl, fun _ _ => rfl, rfl, rfl, rfl, rfl, rfl⟩, rfl, rfl, rfl⟩
  · exact ⟨⟨rfl, rfl, rfl, fun _ _ => rfl, rfl, rfl, rfl, rfl, rfl⟩, rfl, rfl, rfl⟩
  · exact ⟨⟨rfl, rfl, rfl, fun _ _ => rfl, rfl, rfl, rfl, rfl, rfl⟩, rfl, rfl, rfl⟩
  · unfold writeScroll
    split <;> exact ⟨⟨rfl, rfl, rfl, fun _ _ => rfl, rfl, rfl, rfl, rfl, rfl⟩, rfl, rfl, rfl⟩
  · unfold writeVramAddr
    split <;> exact ⟨⟨rfl, rfl, rfl, fun _ _ => rfl, rfl, rfl, rfl, rfl, rfl⟩, rfl, rfl, rfl⟩
  · obtain ⟨c, n, p, h⟩ := ppuWrite_frame (vramAddr s) d s
    unfold writeVramData
    dsimp only
    rw [h]
    exact ⟨⟨rfl, rfl, rfl, fun _ _ => rfl, rfl, rfl, rfl, rfl, rfl⟩, rfl, rfl, rfl⟩
  · exact ⟨WriteFrame.refl s, rfl, rfl, rfl⟩

theorem apuRegWrite_frame (a : Addr) (d : Byte) (s : State) : ∃ u, apuRegWrite a d s = { s with apu := u } := by
  unfold apuRegWrite
  dsimp only
  split <;> exact ⟨_, rfl⟩

/-- A write to CPU RAM or to its mirrors stores the byte in the RAM cell, and does nothing else (20_memory.md R132, R138). -/
theorem memWrite_ram {a : Addr} (h : a.toNat < 0x2000) (v : Byte) (s : State) :
    memWrite a v s = { s with mem := { s.mem with ram := s.mem.ram.write (a.toNat % 2048) v } } := by
  unfold memWrite
  split
  · next h' => rw [Nat.mod_eq_of_lt h']
  · next h' =>
    have : (writeTable s.cart.mapper).lookup a.toNat = some .ramMirror := by
      unfold writeTable defaultWriteTable
      simp only [List.cons_append, HandlerTable.lookup]
      rw [if_pos ⟨by omega, by omega⟩]
    rw [this]
    rfl

/-- A page table write stores a byte in RAM or SRAM, or is discarded. -/
theorem pageWrite_frame (a : Addr) (v : Byte) (s : State) : WriteFrame s (pageWrite a v s) := by
  unfold pageWrite
  split <;> exact ⟨rfl, rfl, rfl, fun _ _ => rfl, rfl, rfl, rfl, rfl, rfl⟩

/-- A write of a handler keeps the frame. -/
theorem handler_frame (h : WriteHandler) (a : Addr) (v : Byte) (s : State) : WriteFrame s (h.run a v s) := by
  cases h
  · exact ⟨rfl, rfl, rfl, fun _ _ => rfl, rfl, rfl, rfl, rfl, rfl⟩
  · exact (ppuRegWrite_frame a v s).1
  · obtain ⟨u, h⟩ := apuRegWrite_frame a v s
    exact (show WriteHandler.run .apuReg a v s = _ from h) ▸ ⟨rfl, rfl, rfl, fun _ _ => rfl, rfl, rfl, rfl, rfl, rfl⟩
  · exact (((oamDmaCopy_frame v 256 0 s).1.trans (addBurn_frame _ _)).trans (release_frame _))
  · exact ⟨rfl, rfl, rfl, fun _ _ => rfl, rfl, rfl, rfl, rfl, rfl⟩
  · exact ⟨rfl, rfl, rfl, fun _ _ => rfl, rfl, rfl, rfl, rfl, rfl⟩
  · exact ⟨rfl, rfl, rfl, fun _ _ => rfl, rfl, rfl, rfl, rfl, rfl⟩
  · exact (mmc1Write_frame a v s).toWrite
  · exact (mmc3Write_frame a v s).toWrite

/-- A bus write keeps the frame. -/
theorem memWrite_frame (a : Addr) (v : Byte) (s : State) : WriteFrame s (memWrite a v s) := by
  unfold memWrite
  split
  · exact ⟨rfl, rfl, rfl, fun _ _ => rfl, rfl, rfl, rfl, rfl, rfl⟩
  · split
    · exact handler_frame _ a v s
    · exact pageWrite_frame a v s

/-! ### Where a store goes -/

/-- The bytes shown are those of the same locations. -/
theorem peek_eq_of_locate {b : Addr} {s t : State} (hl : locate b t = locate b s)
    (hm : (locate b s).byte t.mem = (locate b s).byte s.mem) : peek b t = peek b s := by
  unfold peek
  rw [hl, hm]

/-- The location of an address below $8000 depends on the page entries below 8. -/
theorem locate_low {b : Addr} {s t : State} (h : WriteFrame s t) (hb : b.toNat < 0x8000) : locate b t = locate b s := by
  unfold locate pageLoc
  rw [h.lowPages (pageOf b) (by simp only [pageOf]; omega)]

/-- A plain store writes one cell and does nothing else. -/
theorem memWrite_plain {a : Addr} {s : State} (h : plainStore a s = true) (v : Byte) :
    (∃ k, locate a s = .ram k ∧ memWrite a v s = { s with mem := { s.mem with ram := s.mem.ram.write k v } }) ∨
    (∃ k, locate a s = .sram k ∧ memWrite a v s = { s with mem := { s.mem with sram := s.mem.sram.write k v } }) := by
  by_cases ha : a.toNat < 0x2000
  · left
    exact ⟨a.toNat % 2048, by unfold locate; rw [if_pos ha]; rfl, memWrite_ram ha v s⟩
  · simp only [plainStore, ha, decide_false, Bool.false_or, Bool.and_eq_true, decide_eq_true_eq, Option.isNone_iff_eq_none] at h
    obtain ⟨⟨h4, hw⟩, hp⟩ := h
    have hl : locate a s = pageLoc a s := by
      unfold locate
      rw [if_neg ha, if_neg (by omega)]
    have hm : memWrite a v s = pageWrite a v s := by
      unfold memWrite
      rw [if_neg (by omega), hw]
    rw [hl, hm]
    unfold pageLoc at hp ⊢
    unfold pageWrite
    cases he : s.pages.get (pageOf a) with
    | dead => simp [he] at hp
    | mapped r base =>
      cases r with
      | ram => exact .inl ⟨_, rfl, rfl⟩
      | sram => exact .inr ⟨_, rfl, rfl⟩
      | prg => simp [he] at hp

/-- What a write of a handler that stores no plain byte leaves of the memories and the page table. -/
theorem handler_memory {h : WriteHandler} (hr : h ≠ .ramMirror) (a : Addr) (v : Byte) (s : State) :
    (h.run a v s).mem.ram = s.mem.ram ∧ (h.run a v s).mem.sram = s.mem.sram ∧
      (h ≠ .mmc1 → h ≠ .mmc3 → (h.run a v s).pages = s.pages) := by
  cases h
  · exact absurd rfl hr
  · exact ⟨(ppuRegWrite_frame a v s).2.2.1, (ppuRegWrite_frame a v s).2.2.2, fun _ _ => (ppuRegWrite_frame a v s).2.1⟩
  · obtain ⟨u, h⟩ := apuRegWrite_frame a v s
    exact (show WriteHandler.run .apuReg a v s = _ from h) ▸ ⟨rfl, rfl, fun _ _ => rfl⟩
  · have hc := (oamDmaCopy_frame v 256 0 s).2
    have e : WriteHandler.run .oamDma a v s = release (addBurn oamDmaCycles (oamDmaCopy v 256 0 s)) := rfl
    rw [e, release_mem, addBurn_mem, release_pages, addBurn_pages, hc.2]
    exact ⟨rfl, rfl, fun _ _ => hc.1⟩
  · exact ⟨rfl, rfl, fun _ _ => rfl⟩
  · exact ⟨rfl, rfl, fun _ _ => rfl⟩
  · exact ⟨rfl, rfl, fun _ _ => rfl⟩
  · have hm := (mmc1Write_frame a v s).mem
    unfold WriteHandler.run
    dsimp only
    rw [hm]
    simp
  · have hm := (mmc3Write_frame a v s).mem
    unfold WriteHandler.run
    dsimp only
    rw [hm]
    simp

/-- The default handlers claim no address from $4018 on, and the mappers none below $8000. -/
theorem lookup_mapper {m a : Nat} {h : WriteHandler} (hl : (writeTable m).lookup a = some h) (ha : 0x4018 ≤ a) :
    0x8000 ≤ a ∧ (h = .mmc1 ∨ h = .mmc3) := by
  unfold writeTable defaultWriteTable at hl
  simp only [List.cons_append, List.nil_append, HandlerTable.lookup] at hl
  repeat rw [if_neg (by omega)] at hl
  unfold mapperWriteTable at hl
  split at hl
  · simp only [HandlerTable.lookup] at hl
    split at hl
    · next hr => exact ⟨hr.1, .inl (by simpa using hl.symm)⟩
    · simp at hl
  · simp only [HandlerTable.lookup] at hl
    split at hl
    · next hr => exact ⟨hr.1, .inr (by simpa using hl.symm)⟩
    · simp at hl
  · simp [HandlerTable.lookup] at hl

/-- Below $4018 every address from $2000 on is a device's, or no handler's. -/
theorem lookup_device {m a : Nat} {h : WriteHandler} (hl : (writeTable m).lookup a = some h) (h2 : 0x2000 ≤ a)
    (h4 : a < 0x4018) : h ≠ .ramMirror ∧ h ≠ .mmc1 ∧ h ≠ .mmc3 := by
  unfold writeTable defaultWriteTable at hl
  simp only [List.cons_append, List.nil_append, HandlerTable.lookup] at hl
  rw [if_neg (by omega)] at hl
  have hm : (mapperWriteTable m).lookup a ≠ some h := by
    unfold mapperWriteTable
    split <;> simp only [HandlerTable.lookup] <;> first | rw [if_neg (by omega)]; simp | simp
  repeat' split at hl
  all_goals first | exact absurd hl hm | (cases hl; simp)

/-- A bus write leaves the bytes and the locations that StoreFrame says. -/
theorem memWrite_storeFrame (a : Addr) (v : Byte) (s : State) : StoreFrame a s (memWrite a v s) := by
  have hf := memWrite_frame a v s
  by_cases hp : plainStore a s = true
  · refine ⟨?_, fun h => absurd hp (by simp [h]), hf.prg⟩
    intro b _ hne
    rcases memWrite_plain hp v with ⟨k, hk, hw⟩ | ⟨k, hk, hw⟩
    · rw [hw]
      refine peek_eq_of_locate rfl ?_
      rw [hk] at hne
      cases hlb : locate b s with
      | ram j =>
        have : j ≠ k := fun e => hne (by rw [hlb, e])
        simp only [Loc.byte]
        rw [Memory.read_write_other _ _ this]
      | sram j => rfl
      | prg j => rfl
      | device => rfl
      | dead => rfl
    · rw [hw]
      refine peek_eq_of_locate rfl ?_
      rw [hk] at hne
      cases hlb : locate b s with
      | ram j => rfl
      | sram j =>
        have : j ≠ k := fun e => hne (by rw [hlb, e])
        simp only [Loc.byte]
        rw [Memory.read_write_other _ _ this]
      | prg j => rfl
      | device => rfl
      | dead => rfl
  · have hp' : plainStore a s = false := by simpa using hp
    have ha : ¬ a.toNat < 0x2000 := fun h => hp (by simp [plainStore, h])
    have key : (memWrite a v s).mem.ram = s.mem.ram ∧ (memWrite a v s).mem.sram = s.mem.sram ∧
        (a.toNat < 0x8000 → (memWrite a v s).pages = s.pages) := by
      cases hl : (writeTable s.cart.mapper).lookup a.toNat with
      | some h =>
        have hw : memWrite a v s = h.run a v s := by
          unfold memWrite
          rw [if_neg (by omega), hl]
        rw [hw]
        by_cases h4 : a.toNat < 0x4018
        · have hd := lookup_device hl (by omega) h4
          have hm := handler_memory hd.1 a v s
          exact ⟨hm.1, hm.2.1, fun _ => hm.2.2 hd.2.1 hd.2.2⟩
        · have hd := lookup_mapper hl (by omega)
          have hm := handler_memory (h := h) (by rcases hd.2 with e | e <;> rw [e] <;> simp) a v s
          exact ⟨hm.1, hm.2.1, fun h8 => absurd hd.1 (by omega)⟩
      | none =>
        have hw : memWrite a v s = pageWrite a v s := by
          unfold memWrite
          rw [if_neg (by omega), hl]
        rw [hw]
        have h4 : 0x4018 ≤ a.toNat := by
          by_contra hlt
          unfold writeTable defaultWriteTable at hl
          simp only [List.cons_append, List.nil_append, HandlerTable.lookup] at hl
          repeat' split at hl
          all_goals first | omega | simp at hl
        simp only [plainStore, ha, h4, hl, decide_false, Bool.false_or, decide_true, Option.isNone_none, Bool.true_and] at hp'
        unfold pageLoc at hp'
        unfold pageWrite
        cases he : s.pages.get (pageOf a) with
        | dead => exact ⟨rfl, rfl, fun _ => rfl⟩
        | mapped r base =>
          cases r with
          | ram => simp [he] at hp'
          | sram => simp [he] at hp'
          | prg => exact ⟨rfl, rfl, fun _ => rfl⟩
    refine ⟨?_, fun _ => ⟨key.1, key.2.1⟩, hf.prg⟩
    intro b hb hne
    have hl : locate b (memWrite a v s) = locate b s := by
      by_cases h8 : b.toNat < 0x8000
      · exact locate_low hf h8
      · exact locate_congr (key.2.2 (by omega)) b
    refine peek_eq_of_locate hl ?_
    cases locate b s <;> simp [Loc.byte, key.1, key.2.1, hf.prg]

/-- After a plain store the address reads the byte stored. -/
theorem memWrite_plain_peek {a : Addr} {s : State} (h : plainStore a s = true) (hm : s.mem.wf = true) (v : Byte) :
    peek a (memWrite a v s) = some v := by
  simp only [Mems.wf, Bool.and_eq_true] at hm
  rcases memWrite_plain h v with ⟨k, hk, hw⟩ | ⟨k, hk, hw⟩
  · rw [hw]
    show (locate a s).byte _ = _
    rw [hk]
    exact congrArg some (Memory.read_write_self hm.1.1.1.1.1.1 k v)
  · rw [hw]
    show (locate a s).byte _ = _
    rw [hk]
    exact congrArg some (Memory.read_write_self hm.1.1.1.1.1.2 k v)

/-! ### The canonical form -/

theorem Mems.wf_iff (m : Mems) : m.wf = true ↔
    m.ram.wf = true ∧ m.sram.wf = true ∧ m.prg.wf = true ∧ m.chr.wf = true ∧ m.nt.wf = true ∧ m.oam.wf = true ∧ m.pal.wf = true := by
  simp only [Mems.wf, Bool.and_eq_true]
  tauto

theorem oamDmaCopy_wf (d : Byte) (n i : Nat) (s : State) (h : s.mem.wf = true) : (oamDmaCopy d n i s).mem.wf = true := by
  induction n generalizing i s with
  | zero => exact h
  | succ n ih =>
    unfold oamDmaCopy
    refine ih _ _ ?_
    have hr := (memRead_frame (mkAddr d (BitVec.ofNat 8 i)) s).mem
    rw [Mems.wf_iff] at h ⊢
    dsimp only
    rw [hr]
    exact ⟨h.1, h.2.1, h.2.2.1, h.2.2.2.1, h.2.2.2.2.1, Memory.write_wf h.2.2.2.2.2.1 _ _, h.2.2.2.2.2.2⟩

theorem ppuWrite_wf (a : PpuAddr) (d : Byte) (s : State) (h : s.mem.wf = true) : (ppuWrite a d s).mem.wf = true := by
  rw [Mems.wf_iff] at h
  obtain ⟨h1, h2, h3, h4, h5, h6, h7⟩ := h
  unfold ppuWrite
  dsimp only
  split
  · rw [Mems.wf_iff]
    exact ⟨h1, h2, h3, h4, h5, h6, Memory.write_wf h7 _ _⟩
  · split
    · split
      · rw [Mems.wf_iff]
        exact ⟨h1, h2, h3, Memory.write_wf h4 _ _, h5, h6, h7⟩
      · rw [Mems.wf_iff]
        exact ⟨h1, h2, h3, h4, h5, h6, h7⟩
    · rw [Mems.wf_iff]
      exact ⟨h1, h2, h3, h4, Memory.write_wf h5 _ _, h6, h7⟩

theorem ppuRegWrite_wf (a : Addr) (d : Byte) (s : State) (h : s.mem.wf = true) : (ppuRegWrite a d s).mem.wf = true := by
  unfold ppuRegWrite
  split
  · exact h
  · exact h
  · exact h
  · rw [Mems.wf_iff] at h
    show (Mems.wf { s.mem with oam := _ }) = true
    rw [Mems.wf_iff]
    exact ⟨h.1, h.2.1, h.2.2.1, h.2.2.2.1, h.2.2.2.2.1, Memory.write_wf h.2.2.2.2.2.1 _ _, h.2.2.2.2.2.2⟩
  · unfold writeScroll
    split <;> exact h
  · unfold writeVramAddr
    split <;> exact h
  · exact ppuWrite_wf _ d s h
  · exact h

/-- A bus write keeps the canonical form of every memory. -/
theorem memWrite_wf (a : Addr) (v : Byte) (s : State) (h : s.mem.wf = true) : (memWrite a v s).mem.wf = true := by
  have hram : ∀ k, Mems.wf { s.mem with ram := s.mem.ram.write k v } = true := by
    intro k
    rw [Mems.wf_iff] at h ⊢
    exact ⟨Memory.write_wf h.1 k v, h.2⟩
  have hsram : ∀ k, Mems.wf { s.mem with sram := s.mem.sram.write k v } = true := by
    intro k
    rw [Mems.wf_iff] at h ⊢
    exact ⟨h.1, Memory.write_wf h.2.1 k v, h.2.2⟩
  unfold memWrite
  split
  · exact hram _
  · split
    · next hd _ =>
      cases hd
      · exact hram _
      · exact ppuRegWrite_wf a v s h
      · obtain ⟨u, hu⟩ := apuRegWrite_frame a v s
        exact (show WriteHandler.run .apuReg a v s = _ from hu) ▸ h
      · have e : WriteHandler.run .oamDma a v s = release (addBurn oamDmaCycles (oamDmaCopy v 256 0 s)) := rfl
        rw [e, release_mem, addBurn_mem]
        exact oamDmaCopy_wf v 256 0 s h
      · exact h
      · exact h
      · exact h
      · exact (mmc1Write_frame a v s).mem ▸ h
      · exact (mmc3Write_frame a v s).mem ▸ h
    · unfold pageWrite
      split
      · exact hram _
      · exact hsram _
      · exact h
      · exact h

/-- The memories at reset are canonical. -/
theorem reset_memWf : State.reset.memWf = true := by decide

end Sys2Proof.Machine
end

