-- ==== Sys2Proof/Laws/Ops.lean ====
section
/-! SUPPORT. What the shared operations can do: the stack, the interrupt entry and return, and the operand loads. The stack and the
zero page are CPU RAM, so pushes, pulls and pointer reads have no side effect. -/

namespace Sys2Proof.Machine

/-! ### Addresses in page zero and page one -/

theorem mkAddr_toNat (h l : Byte) : (mkAddr h l).toNat = 256 * h.toNat + l.toNat := by
  unfold mkAddr
  have hl := l.isLt
  rw [BitVec.toNat_append, ← Nat.shiftLeft_add_eq_or_of_lt hl, Nat.shiftLeft_eq]
  omega

theorem zext_toNat (z : Byte) : (zext z).toNat = z.toNat := by
  unfold zext
  rw [BitVec.toNat_setWidth]
  have := z.isLt
  omega

theorem stackAddr_toNat (sp : Byte) : (stackAddr sp).toNat = 256 + sp.toNat := by
  unfold stackAddr
  rw [mkAddr_toNat]
  rfl

theorem memRead_zp (z : Byte) (s : State) : memRead (zext z) s = (s.mem.ram.read z.toNat, s) := by
  have hz := z.isLt
  rw [memRead_ram (by rw [zext_toNat]; omega), zext_toNat, Nat.mod_eq_of_lt (by omega)]

theorem memWrite_stack (sp v : Byte) (s : State) :
    memWrite (stackAddr sp) v s = { s with mem := { s.mem with ram := s.mem.ram.write (256 + sp.toNat) v } } := by
  have hs := sp.isLt
  rw [memWrite_ram (by rw [stackAddr_toNat]; omega), stackAddr_toNat, Nat.mod_eq_of_lt (by omega)]

theorem memRead_stack (sp : Byte) (s : State) : memRead (stackAddr sp) s = (s.mem.ram.read (256 + sp.toNat), s) := by
  have hs := sp.isLt
  rw [memRead_ram (by rw [stackAddr_toNat]; omega), stackAddr_toNat, Nat.mod_eq_of_lt (by omega)]

/-! ### Stack -/

/-- `Push` writes one RAM cell of page one and S (00_scope.md R10). -/
theorem push_eq (v : Byte) (s : State) :
    push v s = { s with cpu := { s.cpu with sp := s.cpu.sp - 1 },
                        mem := { s.mem with ram := s.mem.ram.write (256 + s.cpu.sp.toNat) v } } := by
  unfold push
  rw [memWrite_stack]
  rfl

/-- `Pull` reads one RAM cell of page one and writes S (00_scope.md R10). -/
theorem pull_eq (s : State) :
    pull s = (s.mem.ram.read (256 + (s.cpu.sp + 1).toNat), { s with cpu := { s.cpu with sp := s.cpu.sp + 1 } }) := by
  unfold pull
  exact memRead_stack _ _

theorem push16_eq (v : Addr) (s : State) :
    push16 v s = { s with
      cpu := { s.cpu with sp := s.cpu.sp - 1 - 1 },
      mem := { s.mem with ram :=
        (s.mem.ram.write (256 + s.cpu.sp.toNat) (hiByte v)).write (256 + (s.cpu.sp - 1).toNat) (loByte v) } } := by
  unfold push16
  rw [push_eq, push_eq]

theorem pull16_eq (s : State) :
    pull16 s = (mkAddr (s.mem.ram.read (256 + (s.cpu.sp + 1 + 1).toNat)) (s.mem.ram.read (256 + (s.cpu.sp + 1).toNat)),
      { s with cpu := { s.cpu with sp := s.cpu.sp + 1 + 1 } }) := by
  unfold pull16
  dsimp only
  rw [pull_eq, pull_eq]

/-! ### Interrupts -/

/-- RAM after an interrupt frame: pc high, pc low and P below S (60_exceptions.md R359). -/
def frameRam (b : Bool) (s : State) : Memory :=
  ((s.mem.ram.write (256 + s.cpu.sp.toNat) (hiByte s.cpu.pc)).write (256 + (s.cpu.sp - 1).toNat) (loByte s.cpu.pc)).write
    (256 + (s.cpu.sp - 1 - 1).toNat) (s.cpu.f.pushed b)

/-- The state in which the entry reads its vector. -/
def framed (b : Bool) (s : State) : State :=
  { s with cpu := { s.cpu with sp := s.cpu.sp - 1 - 1 - 1, f := { s.cpu.f with i := true } },
           mem := { s.mem with ram := frameRam b s } }

/-- The interrupt entry: a frame of three bytes, I set, pc from the vector. -/
theorem enterInterrupt_eq (b : Bool) (vector : Addr) (s : State) :
    enterInterrupt b vector s =
      setPc (memRead16 vector (framed b s)).1 (memRead16 vector (framed b s)).2 := by
  unfold enterInterrupt
  rw [push16_eq, push_eq]
  rfl

/-- The return from an interrupt: P and then pc, three bytes up the stack (60_exceptions.md R365). -/
theorem returnFromInterrupt_eq (s : State) :
    returnFromInterrupt s =
      { s with cpu := { s.cpu with
          sp := s.cpu.sp + 1 + 1 + 1
          f := Flags.pulled (s.mem.ram.read (256 + (s.cpu.sp + 1).toNat))
          pc := mkAddr (s.mem.ram.read (256 + (s.cpu.sp + 1 + 1 + 1).toNat))
            (s.mem.ram.read (256 + (s.cpu.sp + 1 + 1).toNat)) } } := by
  unfold returnFromInterrupt
  dsimp only
  rw [pull_eq, pull16_eq]
  rfl

/-! ### Operands -/

theorem zpRead16_eq (z : Byte) (s : State) :
    zpRead16 z s = (mkAddr (s.mem.ram.read (z + 1).toNat) (s.mem.ram.read z.toNat), s) := by
  unfold zpRead16
  dsimp only
  rw [memRead_zp, memRead_zp]

/-- Computing an effective address changes nothing: its pointers lie in page zero. -/
theorem effAddr_state (o : Operand) (s : State) : (effAddr o s).2 = s := by
  cases o <;> simp only [effAddr, zpRead16_eq]

/-- An operand load has only the effects of bus reads. -/
theorem loadOperand_frame (o : Operand) (s : State) : ReadFrame s (loadOperand o s).2 := by
  unfold loadOperand
  split
  · exact ReadFrame.refl s
  · exact ReadFrame.refl s
  · dsimp only
    have h := memRead_frame (effAddr o s).1.addr (effAddr o s).2
    rw [effAddr_state] at h ⊢
    exact h

/-- The memory forms of `Load` read the byte at the effective address. -/
theorem loadOperand_mem {o : Operand} (hi : ∀ v, o ≠ .imm v) (ha : o ≠ .acc) (s : State) :
    loadOperand o s =
      (⟨(memRead (effAddr o s).1.addr s).1, (effAddr o s).1.crossed⟩, (memRead (effAddr o s).1.addr s).2) := by
  unfold loadOperand
  split
  · exact absurd rfl (hi _)
  · exact absurd rfl ha
  · dsimp only
    rw [effAddr_state]

/-- A reading instruction ends in a next state: the effect of its operand, charged. -/
theorem readInstr_eq (o : Operand) (base : Nat) (effect : Byte → State → State) (s : State) :
    readInstr o base effect s =
      .next (charge (readCost base (loadOperand o s).1.crossed) (effect (loadOperand o s).1.val (loadOperand o s).2)) := rfl

/-- A storing instruction ends in a next state: its store, charged. -/
theorem storeInstr_eq (o : Operand) (cost : Nat) (v : Byte) (s : State) :
    storeInstr o cost v s = .next (charge cost (memWrite (effAddr o s).1.addr v s)) := by
  unfold storeInstr
  dsimp only
  rw [effAddr_state]
  rfl

/-- The memory forms of `RMW`: one read and one write of the effective address. -/
theorem rmwOperand_mem {o : Operand} (ha : o ≠ .acc) (f : Byte → Flags → Byte × Flags) (s : State) :
    rmwOperand o f s =
      ((f (memRead (effAddr o s).1.addr s).1 s.cpu.f).1,
        setFlags (f (memRead (effAddr o s).1.addr s).1 s.cpu.f).2
          (memWrite (effAddr o s).1.addr (f (memRead (effAddr o s).1.addr s).1 s.cpu.f).1
            (memRead (effAddr o s).1.addr s).2)) := by
  unfold rmwOperand
  split
  · exact absurd rfl ha
  · dsimp only
    rw [effAddr_state]

end Sys2Proof.Machine
end

