-- ==== Sys2Proof/Laws/Audio.lean ====
section
/-! SUPPORT. The mix call reads nothing of the host's side (62_apu.md R474): the samples it has written make no difference to the machine,
so that `n + 1` samples are `n` samples and one more. -/

namespace Sys2Proof.Machine

/-- The state with another audio buffer. -/
def withAudio (l : List (BitVec 16)) (s : State) : State := { s with host := { s.host with audio := l } }

@[simp] theorem withAudio_apu (l : List (BitVec 16)) (s : State) : (withAudio l s).apu = s.apu := rfl
@[simp] theorem withAudio_cpu (l : List (BitVec 16)) (s : State) : (withAudio l s).cpu = s.cpu := rfl
@[simp] theorem withAudio_run (l : List (BitVec 16)) (s : State) : (withAudio l s).run = s.run := rfl
@[simp] theorem withAudio_pages (l : List (BitVec 16)) (s : State) : (withAudio l s).pages = s.pages := rfl
@[simp] theorem withAudio_mem (l : List (BitVec 16)) (s : State) : (withAudio l s).mem = s.mem := rfl
@[simp] theorem withAudio_withAudio (l m : List (BitVec 16)) (s : State) : withAudio l (withAudio m s) = withAudio l s := rfl

theorem pageRead_audio (a : Addr) (l : List (BitVec 16)) (s : State) :
    pageRead a (withAudio l s) = ((pageRead a s).1, withAudio l (pageRead a s).2) := by
  unfold pageRead
  rw [withAudio_pages]
  cases s.pages.get (pageOf a) with
  | dead => rfl
  | mapped r b => cases r <;> rfl

theorem ppuRegRead_audio (a : Addr) (l : List (BitVec 16)) (s : State) :
    ppuRegRead a (withAudio l s) = ((ppuRegRead a s).1, withAudio l (ppuRegRead a s).2) := by
  unfold ppuRegRead
  generalize a.toNat % 8 = r
  split
  · rfl
  · rfl
  · unfold readVramData
    have h : vramAddr (withAudio l s) = vramAddr s := rfl
    rw [h]
    dsimp only
    split <;> rfl
  · rfl

theorem apuRead_audio (a : Addr) (l : List (BitVec 16)) (s : State) :
    apuRead a (withAudio l s) = ((apuRead a s).1, withAudio l (apuRead a s).2) := by
  unfold apuRead
  dsimp only
  by_cases h : a.toNat = 0x4015
  · rw [if_pos h, if_pos h]; rfl
  · rw [if_neg h, if_neg h]; rfl

theorem padRead_audio (p : Nat) (l : List (BitVec 16)) (s : State) :
    padRead p (withAudio l s) = ((padRead p s).1, withAudio l (padRead p s).2) := by
  unfold padRead
  have h : (withAudio l s).pads = s.pads := rfl
  rw [h]
  dsimp only
  split <;> rfl

theorem memRead_audio (a : Addr) (l : List (BitVec 16)) (s : State) :
    memRead a (withAudio l s) = ((memRead a s).1, withAudio l (memRead a s).2) := by
  unfold memRead
  by_cases h1 : a.toNat < 0x0800
  · rw [if_pos h1, if_pos h1]; rfl
  · rw [if_neg h1, if_neg h1]
    by_cases h2 : 0x8000 ≤ a.toNat
    · rw [if_pos h2, if_pos h2]; exact pageRead_audio a l s
    · rw [if_neg h2, if_neg h2]
      cases readTable.lookup a.toNat with
      | none => exact pageRead_audio a l s
      | some h =>
        cases h <;> simp only [ReadHandler.run]
        · rfl
        · exact ppuRegRead_audio a l s
        · exact apuRead_audio a l s
        · exact padRead_audio _ l s

theorem memRead16_audio (a : Addr) (l : List (BitVec 16)) (s : State) :
    memRead16 a (withAudio l s) = ((memRead16 a s).1, withAudio l (memRead16 a s).2) := by
  unfold memRead16
  dsimp only
  rw [memRead_audio, memRead_audio]

theorem addBurn_audio (k : Nat) (l : List (BitVec 16)) (s : State) : addBurn k (withAudio l s) = withAudio l (addBurn k s) := by
  unfold addBurn
  rw [withAudio_run]
  split <;> rfl

theorem enterInterrupt_audio (b : Bool) (v : Addr) (l : List (BitVec 16)) (s : State) :
    enterInterrupt b v (withAudio l s) = withAudio l (enterInterrupt b v s) := by
  rw [enterInterrupt_eq, enterInterrupt_eq]
  have h : framed b (withAudio l s) = withAudio l (framed b s) := rfl
  rw [h, memRead16_audio]
  rfl

theorem irq_audio (l : List (BitVec 16)) (s : State) : irq (withAudio l s) = withAudio l (irq s) := by
  unfold irq interrupt
  rw [withAudio_run, withAudio_cpu, enterInterrupt_audio, addBurn_audio]
  split
  · rfl
  · split <;> rfl

theorem dmcFetch_audio (l : List (BitVec 16)) (s : State) : dmcFetch (withAudio l s) = withAudio l (dmcFetch s) := by
  unfold dmcFetch
  rw [withAudio_apu, memRead_audio]
  generalize memRead s.apu.dmc.addr s = r
  obtain ⟨b, u⟩ := r
  dsimp only
  rw [addBurn_audio, withAudio_apu]
  generalize addBurn 1 u = w
  have h : ∀ q : Apu, ({ withAudio l w with apu := q } : State) = withAudio l { w with apu := q } := fun _ => rfl
  rw [withAudio_apu]
  simp only [h, irq_audio]
  split
  · split
    · rfl
    · split <;> rfl
  · rfl

theorem dmcFetches_audio (n : Nat) (l : List (BitVec 16)) (s : State) :
    dmcFetches n (withAudio l s) = withAudio l (dmcFetches n s) := by
  induction n generalizing s with
  | zero => rfl
  | succ n ih =>
    unfold dmcFetches
    rw [withAudio_apu, dmcFetch_audio, ih]
    split <;> rfl

/-- The word that the next sample writes. -/
def nextOutput (s : State) : BitVec 16 :=
  let a := (dmcSample s.apu.clock (countSample s.apu.clock s)).apu
  outputSample (clampSample (Config.synthFilter (rawSum a) (a.synth.getD 5 0)).1)

theorem dmcSample_audio (k : Nat) (l : List (BitVec 16)) (s : State) : dmcSample k (withAudio l s) = withAudio l (dmcSample k s) := by
  unfold dmcSample
  rw [withAudio_apu, dmcFetches_audio]
  unfold dmcOutputBits
  rw [withAudio_apu]
  generalize Dmc.outputBits _ = q
  rfl

/-- A sample appends one word, whatever the buffer holds. -/
theorem generateSample_audio (l : List (BitVec 16)) (s : State) :
    generateSample (withAudio l s) = withAudio (l ++ [nextOutput s]) (generateSample s) := by
  unfold generateSample nextOutput
  have h : countSample (withAudio l s).apu.clock (withAudio l s) = withAudio l (countSample s.apu.clock s) := rfl
  rw [h, withAudio_apu, dmcSample_audio]
  generalize dmcSample s.apu.clock (countSample s.apu.clock s) = u
  rfl

/-- `n` samples append `n` words. -/
theorem generateSamples_audio (n : Nat) (s : State) :
    ∃ words : List (BitVec 16), words.length = n ∧
      ∀ l, generateSamples n (withAudio l s) = withAudio (l ++ words) (generateSamples n s) := by
  induction n generalizing s with
  | zero => exact ⟨[], rfl, fun l => by rw [List.append_nil]; rfl⟩
  | succ n ih =>
    obtain ⟨words, hn, h⟩ := ih (generateSample s)
    refine ⟨nextOutput s :: words, by rw [List.length_cons, hn], fun l => ?_⟩
    unfold generateSamples
    rw [generateSample_audio, h, List.append_assoc]
    rfl

/-- The last of `n + 1` samples comes after the first `n`. -/
theorem generateSamples_succ (n : Nat) (s : State) : generateSamples (n + 1) s = generateSample (generateSamples n s) := by
  induction n generalizing s with
  | zero => rfl
  | succ n ih => rw [generateSamples, ih]; rfl

/-! ### What one sample does to the APU -/

theorem irq_apu (s : State) : (irq s).apu = s.apu := by
  unfold irq interrupt
  split
  · rfl
  · split
    · rfl
    · rw [addBurn_apu, enterInterrupt_eq]
      exact (memRead16_frame irqVector (framed false s)).apu

/-- The DMC after one fetch, whose byte is `b` (62_apu.md R476). -/
def Dmc.fetched (c : Dmc) (b : Byte) : Dmc :=
  let d := { c with addr := nextSampleAddr c.addr, remaining := c.remaining - 1, bits := c.bits ++ sampleBits b }
  if d.remaining = 0 then (if d.reg0.getLsbD 6 then d.restart else if d.reg0.getLsbD 7 then { d with irq := true } else d) else d

/-- A fetch moves no other channel. -/
theorem dmcFetch_apu (s : State) :
    (dmcFetch s).apu = { s.apu with dmc := s.apu.dmc.fetched (memRead s.apu.dmc.addr s).1 } := by
  have hf := (memRead_frame s.apu.dmc.addr s).apu
  unfold dmcFetch Dmc.fetched
  generalize memRead s.apu.dmc.addr s = r at *
  obtain ⟨b, u⟩ := r
  dsimp only at hf ⊢
  have hb := (addBurn_apu 1 u).trans hf
  rw [hf]
  generalize addBurn 1 u = w at *
  by_cases h : s.apu.dmc.remaining - 1 = 0
  · rw [if_pos h, if_pos h]
    by_cases h6 : s.apu.dmc.reg0.getLsbD 6 = true
    · rw [if_pos h6, if_pos h6]
      dsimp only
      rw [hb]
    · rw [if_neg h6, if_neg h6]
      by_cases h7 : s.apu.dmc.reg0.getLsbD 7 = true
      · rw [if_pos h7, if_pos h7, irq_apu]
        dsimp only
        rw [hb]
      · rw [if_neg h7, if_neg h7]
        dsimp only
        rw [hb]
  · rw [if_neg h, if_neg h]
    dsimp only
    rw [hb]

/-- Fetches move no other channel, keep the DMC's registers and time, and leave at most a whole sample. -/
theorem dmcFetches_apu (n : Nat) (s : State) :
    let d := (dmcFetches n s).apu.dmc
    (dmcFetches n s).apu = { s.apu with dmc := d } ∧ d.reg0 = s.apu.dmc.reg0 ∧ d.reg3 = s.apu.dmc.reg3 ∧ d.timer = s.apu.dmc.timer ∧
      d.remaining ≤ max s.apu.dmc.remaining (16 * s.apu.dmc.reg3.toNat + 1) := by
  induction n generalizing s with
  | zero => exact ⟨rfl, rfl, rfl, rfl, Nat.le_max_left _ _⟩
  | succ n ih =>
    dsimp only at ih ⊢
    unfold dmcFetches
    split
    · obtain ⟨h1, h2, h3, h4, h5⟩ := ih (dmcFetch s)
      generalize (dmcFetches n (dmcFetch s)).apu = q at *
      have hd := dmcFetch_apu s
      generalize (memRead s.apu.dmc.addr s).1 = b at *
      rw [hd] at h1 h2 h3 h4 h5
      dsimp only at h1 h2 h3 h4 h5
      have hk : (s.apu.dmc.fetched b).reg0 = s.apu.dmc.reg0 ∧ (s.apu.dmc.fetched b).reg3 = s.apu.dmc.reg3 ∧
          (s.apu.dmc.fetched b).timer = s.apu.dmc.timer ∧
          (s.apu.dmc.fetched b).remaining ≤ max s.apu.dmc.remaining (16 * s.apu.dmc.reg3.toNat + 1) := by
        unfold Dmc.fetched Dmc.restart Dmc.startLength
        dsimp only
        split
        · split
          · exact ⟨rfl, rfl, rfl, Nat.le_max_right _ _⟩
          · split <;> exact ⟨rfl, rfl, rfl, by dsimp only; omega⟩
        · exact ⟨rfl, rfl, rfl, by dsimp only; omega⟩
      refine ⟨h1, h2.trans hk.1, h3.trans hk.2.1, h4.trans hk.2.2.1, ?_⟩
      rw [hk.2.1] at h5
      omega
    · exact ⟨rfl, rfl, rfl, rfl, Nat.le_max_left _ _⟩

/-- Fetches keep the DMC's other registers too. -/
theorem dmcFetches_registers (n : Nat) (s : State) :
    (dmcFetches n s).apu.dmc.reg1 = s.apu.dmc.reg1 ∧ (dmcFetches n s).apu.dmc.reg2 = s.apu.dmc.reg2 := by
  induction n generalizing s with
  | zero => exact ⟨rfl, rfl⟩
  | succ n ih =>
    unfold dmcFetches
    split
    · rw [(ih _).1, (ih _).2, dmcFetch_apu]
      unfold Dmc.fetched
      dsimp only
      split
      · split
        · exact ⟨rfl, rfl⟩
        · split <;> exact ⟨rfl, rfl⟩
      · exact ⟨rfl, rfl⟩
    · exact ⟨rfl, rfl⟩

/-- With the DMC off or at its end no byte is fetched. -/
theorem dmcFetches_idle (n : Nat) {s : State} (h : s.apu.enable.getLsbD 4 = false ∨ s.apu.dmc.remaining = 0) : dmcFetches n s = s := by
  cases n with
  | zero => rfl
  | succ n =>
    unfold dmcFetches
    rw [if_neg]
    rcases h with h | h
    · rw [h, Bool.false_and]; exact Bool.false_ne_true
    · rw [h, decide_eq_false (Nat.lt_irrefl 0), Bool.and_false]; exact Bool.false_ne_true

/-- The DMC's part of a sample: its fetches, and then its bits. -/
theorem dmcSample_apu (k : Nat) (s : State) :
    ∃ n, (dmcSample k s).apu = { s.apu with dmc := (dmcFetches n s).apu.dmc.outputBits } := by
  unfold dmcSample dmcOutputBits
  generalize Config.dmcSchedule _ _ _ = n
  refine ⟨n, ?_⟩
  have h := (dmcFetches_apu n s).1
  dsimp only at h ⊢
  generalize dmcFetches n s = u at *
  generalize u.apu.dmc.outputBits = d
  rw [h]

/-- A sample moves the channels' states, the filter's and the count of samples. -/
theorem mixSample_apu (s : State) :
    (mixSample s).apu = { s.apu with synth := (mixSample s).apu.synth, clock := s.apu.clock + 1 } := rfl

/-- The APU after a sample. -/
theorem generateSample_apu (s : State) :
    ∃ n, (generateSample s).apu = { (countSample s.apu.clock s).apu with
      dmc := (dmcFetches n (countSample s.apu.clock s)).apu.dmc.outputBits
      synth := (generateSample s).apu.synth
      clock := s.apu.clock + 1 } := by
  unfold generateSample
  have hc : (countSample s.apu.clock s).apu.clock = s.apu.clock := rfl
  generalize countSample s.apu.clock s = v at *
  obtain ⟨n, h⟩ := dmcSample_apu s.apu.clock v
  refine ⟨n, ?_⟩
  rw [mixSample_apu, h, hc]

end Sys2Proof.Machine
end

