-- ==== Sys2Proof/Laws/Bits.lean ====
section
/-! SUPPORT. The bit-field helpers, bit by bit, and the parameters as numbers. -/

namespace Sys2Proof.Machine

/-- `putField` bit by bit: the field's bits are those of `x`, the others stay. -/
theorem putField_getLsbD (r : BitVec 15) (lo len x j : Nat) (hj : j < 15) :
    (putField r lo len x).getLsbD j = if lo ≤ j ∧ j < lo + len then x.testBit (j - lo) else r.getLsbD j := by
  have hm : (BitVec.ofNat 15 (2 ^ len - 1) <<< lo).getLsbD j = decide (lo ≤ j ∧ j < lo + len) := by
    rw [BitVec.getLsbD_shiftLeft, BitVec.getLsbD_ofNat, Nat.testBit_two_pow_sub_one, Bool.eq_iff_iff]
    simp only [Bool.and_eq_true, decide_eq_true_eq, Bool.not_eq_true', decide_eq_false_iff_not]
    omega
  unfold putField
  simp only [BitVec.getLsbD_or, BitVec.getLsbD_and, BitVec.getLsbD_not, hm, BitVec.getLsbD_shiftLeft, BitVec.getLsbD_ofNat, hj,
    decide_true, Bool.true_and]
  by_cases h : lo ≤ j ∧ j < lo + len
  · have h1 : ¬ j < lo := by omega
    have h2 : j - lo < 15 := by omega
    simp [h, h1, h2]
  · simp [h]

/-- Bit `j` of `b[k+n-1:k]`, as a number. -/
theorem testBit_slice (b : Byte) (k n j : Nat) : (b.toNat / 2 ^ k % 2 ^ n).testBit j = (decide (j < n) && b.getLsbD (k + j)) := by
  rw [Nat.testBit_mod_two_pow, Nat.testBit_div_two_pow, BitVec.testBit_toNat, Nat.add_comm]

/-- The high byte of an address, as a number. -/
theorem hiByte_eq (a : Addr) : hiByte a = BitVec.ofNat 8 (a.toNat / 256) := by
  unfold hiByte
  apply BitVec.eq_of_toNat_eq
  simp [Nat.shiftRight_eq_div_pow]

/-- The low byte of an address, as a number. -/
theorem loByte_eq (a : Addr) : loByte a = BitVec.ofNat 8 a.toNat := by
  unfold loByte
  apply BitVec.eq_of_toNat_eq
  simp

/-- `FIQ_PERIOD` (64_frame_sync.md R560). -/
theorem fiqPeriod_eq : fiqPeriod = 29829 := by decide

end Sys2Proof.Machine
end

