-- ==== Sys2Proof/Laws/Frame.lean ====
section
/-! SUPPORT. What the FIQ timer does at the end of a slice, and its mask (64_frame_sync.md R560; 70_reset_and_hazards.md R612). -/

namespace Sys2Proof.Machine

/-- With no $4017 write in the slice the end of it does nothing more. -/
theorem settleFiqRestart_of_not_restarted {s : State} (h : s.fiq.restarted = false) : settleFiqRestart s = s := by
  obtain ⟨⟩ := s
  rename_i fiq _ _ _ _ _
  obtain ⟨⟩ := fiq
  simp_all [settleFiqRestart]

/-- With the restart at the write alone, only the mark goes. -/
theorem settleFiqRestart_atWrite {s : State} (h : s.fiqRestart = .atWrite) :
    settleFiqRestart s = { s with fiq := { s.fiq with restarted := false } } := by
  simp [settleFiqRestart, h]

/-- By R612 the end of a slice with a $4017 write leaves the whole period. -/
theorem settleFiqRestart_atSliceEnd {s : State} (h : s.fiqRestart = .atSliceEnd) (hr : s.fiq.restarted = true) :
    settleFiqRestart s = { s with fiq := { s.fiq with cycles := (fiqPeriod : Int), restarted := false } } := by
  simp [settleFiqRestart, h, hr]

/-- A tick that does not use the period up only counts down. -/
theorem fiqTick_of_lt {e : Nat} {s : State} (h : (e : Int) < s.fiq.cycles) :
    fiqTick e s = { s with fiq := { s.fiq with cycles := s.fiq.cycles - e } } :=
  if_neg (by omega)

/-- The mask is bits 7 and 6 of the last $4017 write. -/
theorem fiqMasked_eq (s : State) : fiqMasked s = (s.fiq.state.getLsbD 7 || s.fiq.state.getLsbD 6) := by
  unfold fiqMasked
  generalize s.fiq.state = d
  revert d
  decide

end Sys2Proof.Machine
end

