-- ==== Sys2Proof/Laws/Mapper.lean ====
section
/-! SUPPORT. The banking primitives (63_mapper.md R503-R505), entry by entry, and what the two halves of a mapper's `Apply()` keep: the
proofs about a mapping cite these and never unfold a page table. -/

namespace Sys2Proof.Machine

/-! ### What a primitive keeps -/

@[simp] theorem bankPrg_ppu (k a : Nat) (b : Bank) (s : State) : (bankPrg k a b s).ppu = s.ppu := by unfold bankPrg; dsimp only
@[simp] theorem bankPrg_cart (k a : Nat) (b : Bank) (s : State) : (bankPrg k a b s).cart = s.cart := by unfold bankPrg; dsimp only
@[simp] theorem bankPrg_mmc1 (k a : Nat) (b : Bank) (s : State) : (bankPrg k a b s).mmc1 = s.mmc1 := by unfold bankPrg; dsimp only
@[simp] theorem bankPrg_mmc3 (k a : Nat) (b : Bank) (s : State) : (bankPrg k a b s).mmc3 = s.mmc3 := by unfold bankPrg; dsimp only
@[simp] theorem bankChr_pages (k a : Nat) (b : Bank) (s : State) : (bankChr k a b s).pages = s.pages := by unfold bankChr; dsimp only
@[simp] theorem bankChr_cart (k a : Nat) (b : Bank) (s : State) : (bankChr k a b s).cart = s.cart := by unfold bankChr; dsimp only
@[simp] theorem bankChr_mmc1 (k a : Nat) (b : Bank) (s : State) : (bankChr k a b s).mmc1 = s.mmc1 := by unfold bankChr; dsimp only
@[simp] theorem bankChr_mmc3 (k a : Nat) (b : Bank) (s : State) : (bankChr k a b s).mmc3 = s.mmc3 := by unfold bankChr; dsimp only
@[simp] theorem ppuMirror_pages (m : Mirror) (s : State) : (ppuMirror m s).pages = s.pages := by unfold ppuMirror; dsimp only
@[simp] theorem ppuMirror_cart (m : Mirror) (s : State) : (ppuMirror m s).cart = s.cart := by unfold ppuMirror; dsimp only
@[simp] theorem ppuMirror_mmc1 (m : Mirror) (s : State) : (ppuMirror m s).mmc1 = s.mmc1 := by unfold ppuMirror; dsimp only
@[simp] theorem ppuMirror_mmc3 (m : Mirror) (s : State) : (ppuMirror m s).mmc3 = s.mmc3 := by unfold ppuMirror; dsimp only

/-! ### The entries after a primitive -/

theorem bankPrg_get (k a : Nat) (b : Bank) (s : State) (i : Fin 16) :
    (bankPrg k a b s).pages.get i =
      if a / 4096 ≤ i.val ∧ i.val < a / 4096 + k / 4 then prgEntry s.cart.prgBytes (1024 * k) b (i.val - a / 4096)
      else s.pages.get i :=
  setPages_get _ _ _ _ _

theorem bankChr_get (k a : Nat) (b : Bank) (s : State) (i : Fin 16) :
    (bankChr k a b s).ppu.pages.get i =
      if a / 1024 ≤ i.val ∧ i.val < a / 1024 + k then chrEntry s.cart.chrBytes (1024 * k) b (i.val - a / 1024)
      else s.ppu.pages.get i :=
  setPpuPages_get _ _ _ _ _

/-- Entries 8-15 show the four quadrants, twice. -/
theorem ppuMirror_get (m : Mirror) (s : State) (i : Fin 16) :
    (ppuMirror m s).ppu.pages.get i = if 8 ≤ i.val then ntEntry m (i.val % 4) else s.ppu.pages.get i := by
  unfold ppuMirror
  dsimp only
  rw [setPpuPages_get, setPpuPages_get]
  by_cases h : 8 ≤ i.val
  · rw [if_pos h]
    split
    · rw [show i.val - 12 = i.val % 4 by omega]
    · rw [if_pos (by omega), show i.val - 8 = i.val % 4 by omega]
  · rw [if_neg h, if_neg (by omega), if_neg (by omega)]

/-- `LAST_BANK` is the index of the last bank. -/
theorem resolve_last (total size : Nat) : Bank.resolve .last total size = Bank.resolve (.index (max 1 (total / size) - 1)) total size := by
  unfold Bank.resolve
  dsimp only
  rw [Nat.mod_eq_of_lt (by omega)]

/-! ### The halves of `Apply()` -/

/-- MMC1's PRG half moves CPU pages alone. -/
theorem mmc1ApplyPrg_keeps (s : State) :
    (mmc1ApplyPrg s).ppu = s.ppu ∧ (mmc1ApplyPrg s).cart = s.cart ∧ (mmc1ApplyPrg s).mmc1 = s.mmc1 ∧ (mmc1ApplyPrg s).mmc3 = s.mmc3 := by
  unfold mmc1ApplyPrg
  split <;> simp

/-- MMC1's CHR half moves PPU pages alone. -/
theorem mmc1ApplyChr_keeps (s : State) :
    (mmc1ApplyChr s).pages = s.pages ∧ (mmc1ApplyChr s).cart = s.cart ∧ (mmc1ApplyChr s).mmc1 = s.mmc1 ∧ (mmc1ApplyChr s).mmc3 = s.mmc3 := by
  unfold mmc1ApplyChr
  split <;> simp

/-- MMC3's PRG half moves CPU pages alone. -/
theorem mmc3ApplyPrg_keeps (s : State) :
    (mmc3ApplyPrg s).ppu = s.ppu ∧ (mmc3ApplyPrg s).cart = s.cart ∧ (mmc3ApplyPrg s).mmc1 = s.mmc1 ∧ (mmc3ApplyPrg s).mmc3 = s.mmc3 := by
  unfold mmc3ApplyPrg
  dsimp only
  split <;> simp

/-- MMC3's CHR half moves PPU pages alone. -/
theorem mmc3ApplyChr_keeps (s : State) :
    (mmc3ApplyChr s).pages = s.pages ∧ (mmc3ApplyChr s).cart = s.cart ∧ (mmc3ApplyChr s).mmc1 = s.mmc1 ∧ (mmc3ApplyChr s).mmc3 = s.mmc3 := by
  unfold mmc3ApplyChr
  simp

/-! ### The mapping of a reset -/

/-- The generic default moves page tables alone. -/
theorem defaultMapping_frame (s : State) : MapFrame s (defaultMapping s) :=
  (((bankPrg_frame _ _ _ _ (by omega)).trans (bankPrg_frame _ _ _ _ (by omega))).trans (bankChr_frame _ _ _ _)).trans (ppuMirror_frame _ _)

@[simp] theorem defaultMapping_mmc1 (s : State) : (defaultMapping s).mmc1 = s.mmc1 := by simp [defaultMapping]
@[simp] theorem defaultMapping_mmc3 (s : State) : (defaultMapping s).mmc3 = s.mmc3 := by simp [defaultMapping]

/-- A mapper's `init()` moves page tables alone. -/
theorem mapperInit_frame (s : State) : MapFrame s (mapperInit s) := by
  unfold mapperInit
  split
  · exact ((bankPrg_frame _ _ _ _ (by omega)).trans (bankPrg_frame _ _ _ _ (by omega))).trans (bankChr_frame _ _ _ _)
  · exact mmc3Apply_frame s
  · exact MapFrame.refl s

/-- A mapper's `init()` keeps the private state, which is initial before it. -/
theorem mapperInit_keeps (s : State) : (mapperInit s).mmc1 = s.mmc1 ∧ (mapperInit s).mmc3 = s.mmc3 := by
  unfold mapperInit
  split
  · simp [mmc1Init]
  · have h := mmc3ApplyChr_keeps (mmc3ApplyPrg s)
    have g := mmc3ApplyPrg_keeps s
    exact ⟨h.2.2.1.trans g.2.2.1, h.2.2.2.trans g.2.2.2⟩
  · exact ⟨rfl, rfl⟩

/-- The mapping half of a soft reset moves page tables, and returns the private state of both mappers to its initial values. -/
theorem mapperReset_frame (s : State) :
    MapFrame s (mapperReset s) ∧ (mapperReset s).mmc1 = Mmc1.reset ∧ (mapperReset s).mmc3 = Mmc3.reset := by
  unfold mapperReset
  have hp : MapFrame s { s with mmc1 := Mmc1.reset, mmc3 := Mmc3.reset } :=
    ⟨rfl, rfl, rfl, rfl, fun _ _ => rfl, rfl, rfl, rfl, rfl, rfl, rfl, rfl, rfl, rfl⟩
  refine ⟨(hp.trans (defaultMapping_frame _)).trans (mapperInit_frame _), ?_, ?_⟩
  · rw [(mapperInit_keeps _).1, defaultMapping_mmc1]
  · rw [(mapperInit_keeps _).2, defaultMapping_mmc3]

end Sys2Proof.Machine
end

