-- ==== Sys2Proof/Laws/PerInstr.lean ====
section
/-! SUPPORT. Statements made per instruction. EncodedLength: an instruction's opcode byte and operand bytes decode to it, it encodes in
as many bytes as the opcode table gives its opcode, and its form is well-formed. -/

namespace Sys2Proof.Laws.EncodedLength

/-- The opcode and operand bytes decode to the instruction (30_encoding.md R171, R190), its encoding has the table's length (R170), and the
instruction is well-formed. -/
def Statement (i : Instr) : Prop :=
  decodeOp i.opcode (i.form.2.bytes.getD 0 0) (i.form.2.bytes.getD 1 0) = i ∧ (encode i).length = instrLength i.opcode ∧ i.wellFormed = true

theorem brk : Statement (.brk) := ⟨rfl, rfl, rfl⟩
theorem oraIzx (z : Byte) : Statement (.oraIzx z) := ⟨rfl, rfl, rfl⟩
theorem jam02 : Statement (.jam02) := ⟨rfl, rfl, rfl⟩
theorem sloIzx (z : Byte) : Statement (.sloIzx z) := ⟨rfl, rfl, rfl⟩
theorem nopZp04 (z : Byte) : Statement (.nopZp04 z) := ⟨rfl, rfl, rfl⟩
theorem oraZp (z : Byte) : Statement (.oraZp z) := ⟨rfl, rfl, rfl⟩
theorem aslZp (z : Byte) : Statement (.aslZp z) := ⟨rfl, rfl, rfl⟩
theorem sloZp (z : Byte) : Statement (.sloZp z) := ⟨rfl, rfl, rfl⟩
theorem php : Statement (.php) := ⟨rfl, rfl, rfl⟩
theorem oraImm (v : Byte) : Statement (.oraImm v) := ⟨rfl, rfl, rfl⟩
theorem aslAcc : Statement (.aslAcc) := ⟨rfl, rfl, rfl⟩
theorem ancImm0B (v : Byte) : Statement (.ancImm0B v) := ⟨rfl, rfl, rfl⟩
theorem nopAbs (l h : Byte) : Statement (.nopAbs l h) := ⟨rfl, rfl, rfl⟩
theorem oraAbs (l h : Byte) : Statement (.oraAbs l h) := ⟨rfl, rfl, rfl⟩
theorem aslAbs (l h : Byte) : Statement (.aslAbs l h) := ⟨rfl, rfl, rfl⟩
theorem sloAbs (l h : Byte) : Statement (.sloAbs l h) := ⟨rfl, rfl, rfl⟩
theorem bpl (r : Byte) : Statement (.bpl r) := ⟨rfl, rfl, rfl⟩
theorem oraIzy (z : Byte) : Statement (.oraIzy z) := ⟨rfl, rfl, rfl⟩
theorem jam12 : Statement (.jam12) := ⟨rfl, rfl, rfl⟩
theorem sloIzy (z : Byte) : Statement (.sloIzy z) := ⟨rfl, rfl, rfl⟩
theorem nopZpx14 (z : Byte) : Statement (.nopZpx14 z) := ⟨rfl, rfl, rfl⟩
theorem oraZpx (z : Byte) : Statement (.oraZpx z) := ⟨rfl, rfl, rfl⟩
theorem aslZpx (z : Byte) : Statement (.aslZpx z) := ⟨rfl, rfl, rfl⟩
theorem sloZpx (z : Byte) : Statement (.sloZpx z) := ⟨rfl, rfl, rfl⟩
theorem clc : Statement (.clc) := ⟨rfl, rfl, rfl⟩
theorem oraAbsy (l h : Byte) : Statement (.oraAbsy l h) := ⟨rfl, rfl, rfl⟩
theorem nopImp1A : Statement (.nopImp1A) := ⟨rfl, rfl, rfl⟩
theorem sloAbsy (l h : Byte) : Statement (.sloAbsy l h) := ⟨rfl, rfl, rfl⟩
theorem nopAbsx1C (l h : Byte) : Statement (.nopAbsx1C l h) := ⟨rfl, rfl, rfl⟩
theorem oraAbsx (l h : Byte) : Statement (.oraAbsx l h) := ⟨rfl, rfl, rfl⟩
theorem aslAbsx (l h : Byte) : Statement (.aslAbsx l h) := ⟨rfl, rfl, rfl⟩
theorem sloAbsx (l h : Byte) : Statement (.sloAbsx l h) := ⟨rfl, rfl, rfl⟩
theorem jsrAbs (l h : Byte) : Statement (.jsrAbs l h) := ⟨rfl, rfl, rfl⟩
theorem andIzx (z : Byte) : Statement (.andIzx z) := ⟨rfl, rfl, rfl⟩
theorem jam22 : Statement (.jam22) := ⟨rfl, rfl, rfl⟩
theorem rlaIzx (z : Byte) : Statement (.rlaIzx z) := ⟨rfl, rfl, rfl⟩
theorem bitZp (z : Byte) : Statement (.bitZp z) := ⟨rfl, rfl, rfl⟩
theorem andZp (z : Byte) : Statement (.andZp z) := ⟨rfl, rfl, rfl⟩
theorem rolZp (z : Byte) : Statement (.rolZp z) := ⟨rfl, rfl, rfl⟩
theorem rlaZp (z : Byte) : Statement (.rlaZp z) := ⟨rfl, rfl, rfl⟩
theorem plp : Statement (.plp) := ⟨rfl, rfl, rfl⟩
theorem andImm (v : Byte) : Statement (.andImm v) := ⟨rfl, rfl, rfl⟩
theorem rolAcc : Statement (.rolAcc) := ⟨rfl, rfl, rfl⟩
theorem ancImm2B (v : Byte) : Statement (.ancImm2B v) := ⟨rfl, rfl, rfl⟩
theorem bitAbs (l h : Byte) : Statement (.bitAbs l h) := ⟨rfl, rfl, rfl⟩
theorem andAbs (l h : Byte) : Statement (.andAbs l h) := ⟨rfl, rfl, rfl⟩
theorem rolAbs (l h : Byte) : Statement (.rolAbs l h) := ⟨rfl, rfl, rfl⟩
theorem rlaAbs (l h : Byte) : Statement (.rlaAbs l h) := ⟨rfl, rfl, rfl⟩
theorem bmi (r : Byte) : Statement (.bmi r) := ⟨rfl, rfl, rfl⟩
theorem andIzy (z : Byte) : Statement (.andIzy z) := ⟨rfl, rfl, rfl⟩
theorem jam32 : Statement (.jam32) := ⟨rfl, rfl, rfl⟩
theorem rlaIzy (z : Byte) : Statement (.rlaIzy z) := ⟨rfl, rfl, rfl⟩
theorem nopZpx34 (z : Byte) : Statement (.nopZpx34 z) := ⟨rfl, rfl, rfl⟩
theorem andZpx (z : Byte) : Statement (.andZpx z) := ⟨rfl, rfl, rfl⟩
theorem rolZpx (z : Byte) : Statement (.rolZpx z) := ⟨rfl, rfl, rfl⟩
theorem rlaZpx (z : Byte) : Statement (.rlaZpx z) := ⟨rfl, rfl, rfl⟩
theorem sec : Statement (.sec) := ⟨rfl, rfl, rfl⟩
theorem andAbsy (l h : Byte) : Statement (.andAbsy l h) := ⟨rfl, rfl, rfl⟩
theorem nopImp3A : Statement (.nopImp3A) := ⟨rfl, rfl, rfl⟩
theorem rlaAbsy (l h : Byte) : Statement (.rlaAbsy l h) := ⟨rfl, rfl, rfl⟩
theorem nopAbsx3C (l h : Byte) : Statement (.nopAbsx3C l h) := ⟨rfl, rfl, rfl⟩
theorem andAbsx (l h : Byte) : Statement (.andAbsx l h) := ⟨rfl, rfl, rfl⟩
theorem rolAbsx (l h : Byte) : Statement (.rolAbsx l h) := ⟨rfl, rfl, rfl⟩
theorem rlaAbsx (l h : Byte) : Statement (.rlaAbsx l h) := ⟨rfl, rfl, rfl⟩
theorem rti : Statement (.rti) := ⟨rfl, rfl, rfl⟩
theorem eorIzx (z : Byte) : Statement (.eorIzx z) := ⟨rfl, rfl, rfl⟩
theorem jam42 : Statement (.jam42) := ⟨rfl, rfl, rfl⟩
theorem sreIzx (z : Byte) : Statement (.sreIzx z) := ⟨rfl, rfl, rfl⟩
theorem nopZp44 (z : Byte) : Statement (.nopZp44 z) := ⟨rfl, rfl, rfl⟩
theorem eorZp (z : Byte) : Statement (.eorZp z) := ⟨rfl, rfl, rfl⟩
theorem lsrZp (z : Byte) : Statement (.lsrZp z) := ⟨rfl, rfl, rfl⟩
theorem sreZp (z : Byte) : Statement (.sreZp z) := ⟨rfl, rfl, rfl⟩
theorem pha : Statement (.pha) := ⟨rfl, rfl, rfl⟩
theorem eorImm (v : Byte) : Statement (.eorImm v) := ⟨rfl, rfl, rfl⟩
theorem lsrAcc : Statement (.lsrAcc) := ⟨rfl, rfl, rfl⟩
theorem alrImm (v : Byte) : Statement (.alrImm v) := ⟨rfl, rfl, rfl⟩
theorem jmpAbs (l h : Byte) : Statement (.jmpAbs l h) := ⟨rfl, rfl, rfl⟩
theorem eorAbs (l h : Byte) : Statement (.eorAbs l h) := ⟨rfl, rfl, rfl⟩
theorem lsrAbs (l h : Byte) : Statement (.lsrAbs l h) := ⟨rfl, rfl, rfl⟩
theorem sreAbs (l h : Byte) : Statement (.sreAbs l h) := ⟨rfl, rfl, rfl⟩
theorem bvc (r : Byte) : Statement (.bvc r) := ⟨rfl, rfl, rfl⟩
theorem eorIzy (z : Byte) : Statement (.eorIzy z) := ⟨rfl, rfl, rfl⟩
theorem jam52 : Statement (.jam52) := ⟨rfl, rfl, rfl⟩
theorem sreIzy (z : Byte) : Statement (.sreIzy z) := ⟨rfl, rfl, rfl⟩
theorem nopZpx54 (z : Byte) : Statement (.nopZpx54 z) := ⟨rfl, rfl, rfl⟩
theorem eorZpx (z : Byte) : Statement (.eorZpx z) := ⟨rfl, rfl, rfl⟩
theorem lsrZpx (z : Byte) : Statement (.lsrZpx z) := ⟨rfl, rfl, rfl⟩
theorem sreZpx (z : Byte) : Statement (.sreZpx z) := ⟨rfl, rfl, rfl⟩
theorem cli : Statement (.cli) := ⟨rfl, rfl, rfl⟩
theorem eorAbsy (l h : Byte) : Statement (.eorAbsy l h) := ⟨rfl, rfl, rfl⟩
theorem nopImp5A : Statement (.nopImp5A) := ⟨rfl, rfl, rfl⟩
theorem sreAbsy (l h : Byte) : Statement (.sreAbsy l h) := ⟨rfl, rfl, rfl⟩
theorem nopAbsx5C (l h : Byte) : Statement (.nopAbsx5C l h) := ⟨rfl, rfl, rfl⟩
theorem eorAbsx (l h : Byte) : Statement (.eorAbsx l h) := ⟨rfl, rfl, rfl⟩
theorem lsrAbsx (l h : Byte) : Statement (.lsrAbsx l h) := ⟨rfl, rfl, rfl⟩
theorem sreAbsx (l h : Byte) : Statement (.sreAbsx l h) := ⟨rfl, rfl, rfl⟩
theorem rts : Statement (.rts) := ⟨rfl, rfl, rfl⟩
theorem adcIzx (z : Byte) : Statement (.adcIzx z) := ⟨rfl, rfl, rfl⟩
theorem jam62 : Statement (.jam62) := ⟨rfl, rfl, rfl⟩
theorem rraIzx (z : Byte) : Statement (.rraIzx z) := ⟨rfl, rfl, rfl⟩
theorem nopZp64 (z : Byte) : Statement (.nopZp64 z) := ⟨rfl, rfl, rfl⟩
theorem adcZp (z : Byte) : Statement (.adcZp z) := ⟨rfl, rfl, rfl⟩
theorem rorZp (z : Byte) : Statement (.rorZp z) := ⟨rfl, rfl, rfl⟩
theorem rraZp (z : Byte) : Statement (.rraZp z) := ⟨rfl, rfl, rfl⟩
theorem pla : Statement (.pla) := ⟨rfl, rfl, rfl⟩
theorem adcImm (v : Byte) : Statement (.adcImm v) := ⟨rfl, rfl, rfl⟩
theorem rorAcc : Statement (.rorAcc) := ⟨rfl, rfl, rfl⟩
theorem arrImm (v : Byte) : Statement (.arrImm v) := ⟨rfl, rfl, rfl⟩
theorem jmpInd (l h : Byte) : Statement (.jmpInd l h) := ⟨rfl, rfl, rfl⟩
theorem adcAbs (l h : Byte) : Statement (.adcAbs l h) := ⟨rfl, rfl, rfl⟩
theorem rorAbs (l h : Byte) : Statement (.rorAbs l h) := ⟨rfl, rfl, rfl⟩
theorem rraAbs (l h : Byte) : Statement (.rraAbs l h) := ⟨rfl, rfl, rfl⟩
theorem bvs (r : Byte) : Statement (.bvs r) := ⟨rfl, rfl, rfl⟩
theorem adcIzy (z : Byte) : Statement (.adcIzy z) := ⟨rfl, rfl, rfl⟩
theorem jam72 : Statement (.jam72) := ⟨rfl, rfl, rfl⟩
theorem rraIzy (z : Byte) : Statement (.rraIzy z) := ⟨rfl, rfl, rfl⟩
theorem nopZpx74 (z : Byte) : Statement (.nopZpx74 z) := ⟨rfl, rfl, rfl⟩
theorem adcZpx (z : Byte) : Statement (.adcZpx z) := ⟨rfl, rfl, rfl⟩
theorem rorZpx (z : Byte) : Statement (.rorZpx z) := ⟨rfl, rfl, rfl⟩
theorem rraZpx (z : Byte) : Statement (.rraZpx z) := ⟨rfl, rfl, rfl⟩
theorem sei : Statement (.sei) := ⟨rfl, rfl, rfl⟩
theorem adcAbsy (l h : Byte) : Statement (.adcAbsy l h) := ⟨rfl, rfl, rfl⟩
theorem nopImp7A : Statement (.nopImp7A) := ⟨rfl, rfl, rfl⟩
theorem rraAbsy (l h : Byte) : Statement (.rraAbsy l h) := ⟨rfl, rfl, rfl⟩
theorem nopAbsx7C (l h : Byte) : Statement (.nopAbsx7C l h) := ⟨rfl, rfl, rfl⟩
theorem adcAbsx (l h : Byte) : Statement (.adcAbsx l h) := ⟨rfl, rfl, rfl⟩
theorem rorAbsx (l h : Byte) : Statement (.rorAbsx l h) := ⟨rfl, rfl, rfl⟩
theorem rraAbsx (l h : Byte) : Statement (.rraAbsx l h) := ⟨rfl, rfl, rfl⟩
theorem nopImm80 (v : Byte) : Statement (.nopImm80 v) := ⟨rfl, rfl, rfl⟩
theorem staIzx (z : Byte) : Statement (.staIzx z) := ⟨rfl, rfl, rfl⟩
theorem nopImm82 (v : Byte) : Statement (.nopImm82 v) := ⟨rfl, rfl, rfl⟩
theorem saxIzx (z : Byte) : Statement (.saxIzx z) := ⟨rfl, rfl, rfl⟩
theorem styZp (z : Byte) : Statement (.styZp z) := ⟨rfl, rfl, rfl⟩
theorem staZp (z : Byte) : Statement (.staZp z) := ⟨rfl, rfl, rfl⟩
theorem stxZp (z : Byte) : Statement (.stxZp z) := ⟨rfl, rfl, rfl⟩
theorem saxZp (z : Byte) : Statement (.saxZp z) := ⟨rfl, rfl, rfl⟩
theorem dey : Statement (.dey) := ⟨rfl, rfl, rfl⟩
theorem nopImm89 (v : Byte) : Statement (.nopImm89 v) := ⟨rfl, rfl, rfl⟩
theorem txa : Statement (.txa) := ⟨rfl, rfl, rfl⟩
theorem aneImm (v : Byte) : Statement (.aneImm v) := ⟨rfl, rfl, rfl⟩
theorem styAbs (l h : Byte) : Statement (.styAbs l h) := ⟨rfl, rfl, rfl⟩
theorem staAbs (l h : Byte) : Statement (.staAbs l h) := ⟨rfl, rfl, rfl⟩
theorem stxAbs (l h : Byte) : Statement (.stxAbs l h) := ⟨rfl, rfl, rfl⟩
theorem saxAbs (l h : Byte) : Statement (.saxAbs l h) := ⟨rfl, rfl, rfl⟩
theorem bcc (r : Byte) : Statement (.bcc r) := ⟨rfl, rfl, rfl⟩
theorem staIzy (z : Byte) : Statement (.staIzy z) := ⟨rfl, rfl, rfl⟩
theorem jam92 : Statement (.jam92) := ⟨rfl, rfl, rfl⟩
theorem shaIzy (z : Byte) : Statement (.shaIzy z) := ⟨rfl, rfl, rfl⟩
theorem styZpx (z : Byte) : Statement (.styZpx z) := ⟨rfl, rfl, rfl⟩
theorem staZpx (z : Byte) : Statement (.staZpx z) := ⟨rfl, rfl, rfl⟩
theorem stxZpy (z : Byte) : Statement (.stxZpy z) := ⟨rfl, rfl, rfl⟩
theorem saxZpy (z : Byte) : Statement (.saxZpy z) := ⟨rfl, rfl, rfl⟩
theorem tya : Statement (.tya) := ⟨rfl, rfl, rfl⟩
theorem staAbsy (l h : Byte) : Statement (.staAbsy l h) := ⟨rfl, rfl, rfl⟩
theorem txs : Statement (.txs) := ⟨rfl, rfl, rfl⟩
theorem tasAbsy (l h : Byte) : Statement (.tasAbsy l h) := ⟨rfl, rfl, rfl⟩
theorem shyAbsx (l h : Byte) : Statement (.shyAbsx l h) := ⟨rfl, rfl, rfl⟩
theorem staAbsx (l h : Byte) : Statement (.staAbsx l h) := ⟨rfl, rfl, rfl⟩
theorem shxAbsy (l h : Byte) : Statement (.shxAbsy l h) := ⟨rfl, rfl, rfl⟩
theorem shaAbsy (l h : Byte) : Statement (.shaAbsy l h) := ⟨rfl, rfl, rfl⟩
theorem ldyImm (v : Byte) : Statement (.ldyImm v) := ⟨rfl, rfl, rfl⟩
theorem ldaIzx (z : Byte) : Statement (.ldaIzx z) := ⟨rfl, rfl, rfl⟩
theorem ldxImm (v : Byte) : Statement (.ldxImm v) := ⟨rfl, rfl, rfl⟩
theorem laxIzx (z : Byte) : Statement (.laxIzx z) := ⟨rfl, rfl, rfl⟩
theorem ldyZp (z : Byte) : Statement (.ldyZp z) := ⟨rfl, rfl, rfl⟩
theorem ldaZp (z : Byte) : Statement (.ldaZp z) := ⟨rfl, rfl, rfl⟩
theorem ldxZp (z : Byte) : Statement (.ldxZp z) := ⟨rfl, rfl, rfl⟩
theorem laxZp (z : Byte) : Statement (.laxZp z) := ⟨rfl, rfl, rfl⟩
theorem tay : Statement (.tay) := ⟨rfl, rfl, rfl⟩
theorem ldaImm (v : Byte) : Statement (.ldaImm v) := ⟨rfl, rfl, rfl⟩
theorem tax : Statement (.tax) := ⟨rfl, rfl, rfl⟩
theorem lxaImm (v : Byte) : Statement (.lxaImm v) := ⟨rfl, rfl, rfl⟩
theorem ldyAbs (l h : Byte) : Statement (.ldyAbs l h) := ⟨rfl, rfl, rfl⟩
theorem ldaAbs (l h : Byte) : Statement (.ldaAbs l h) := ⟨rfl, rfl, rfl⟩
theorem ldxAbs (l h : Byte) : Statement (.ldxAbs l h) := ⟨rfl, rfl, rfl⟩
theorem laxAbs (l h : Byte) : Statement (.laxAbs l h) := ⟨rfl, rfl, rfl⟩
theorem bcs (r : Byte) : Statement (.bcs r) := ⟨rfl, rfl, rfl⟩
theorem ldaIzy (z : Byte) : Statement (.ldaIzy z) := ⟨rfl, rfl, rfl⟩
theorem jamB2 : Statement (.jamB2) := ⟨rfl, rfl, rfl⟩
theorem laxIzy (z : Byte) : Statement (.laxIzy z) := ⟨rfl, rfl, rfl⟩
theorem ldyZpx (z : Byte) : Statement (.ldyZpx z) := ⟨rfl, rfl, rfl⟩
theorem ldaZpx (z : Byte) : Statement (.ldaZpx z) := ⟨rfl, rfl, rfl⟩
theorem ldxZpy (z : Byte) : Statement (.ldxZpy z) := ⟨rfl, rfl, rfl⟩
theorem laxZpy (z : Byte) : Statement (.laxZpy z) := ⟨rfl, rfl, rfl⟩
theorem clv : Statement (.clv) := ⟨rfl, rfl, rfl⟩
theorem ldaAbsy (l h : Byte) : Statement (.ldaAbsy l h) := ⟨rfl, rfl, rfl⟩
theorem tsx : Statement (.tsx) := ⟨rfl, rfl, rfl⟩
theorem lasAbsy (l h : Byte) : Statement (.lasAbsy l h) := ⟨rfl, rfl, rfl⟩
theorem ldyAbsx (l h : Byte) : Statement (.ldyAbsx l h) := ⟨rfl, rfl, rfl⟩
theorem ldaAbsx (l h : Byte) : Statement (.ldaAbsx l h) := ⟨rfl, rfl, rfl⟩
theorem ldxAbsy (l h : Byte) : Statement (.ldxAbsy l h) := ⟨rfl, rfl, rfl⟩
theorem laxAbsy (l h : Byte) : Statement (.laxAbsy l h) := ⟨rfl, rfl, rfl⟩
theorem cpyImm (v : Byte) : Statement (.cpyImm v) := ⟨rfl, rfl, rfl⟩
theorem cmpIzx (z : Byte) : Statement (.cmpIzx z) := ⟨rfl, rfl, rfl⟩
theorem nopImmC2 (v : Byte) : Statement (.nopImmC2 v) := ⟨rfl, rfl, rfl⟩
theorem dcpIzx (z : Byte) : Statement (.dcpIzx z) := ⟨rfl, rfl, rfl⟩
theorem cpyZp (z : Byte) : Statement (.cpyZp z) := ⟨rfl, rfl, rfl⟩
theorem cmpZp (z : Byte) : Statement (.cmpZp z) := ⟨rfl, rfl, rfl⟩
theorem decZp (z : Byte) : Statement (.decZp z) := ⟨rfl, rfl, rfl⟩
theorem dcpZp (z : Byte) : Statement (.dcpZp z) := ⟨rfl, rfl, rfl⟩
theorem iny : Statement (.iny) := ⟨rfl, rfl, rfl⟩
theorem cmpImm (v : Byte) : Statement (.cmpImm v) := ⟨rfl, rfl, rfl⟩
theorem dex : Statement (.dex) := ⟨rfl, rfl, rfl⟩
theorem axsImm (v : Byte) : Statement (.axsImm v) := ⟨rfl, rfl, rfl⟩
theorem cpyAbs (l h : Byte) : Statement (.cpyAbs l h) := ⟨rfl, rfl, rfl⟩
theorem cmpAbs (l h : Byte) : Statement (.cmpAbs l h) := ⟨rfl, rfl, rfl⟩
theorem decAbs (l h : Byte) : Statement (.decAbs l h) := ⟨rfl, rfl, rfl⟩
theorem dcpAbs (l h : Byte) : Statement (.dcpAbs l h) := ⟨rfl, rfl, rfl⟩
theorem bne (r : Byte) : Statement (.bne r) := ⟨rfl, rfl, rfl⟩
theorem cmpIzy (z : Byte) : Statement (.cmpIzy z) := ⟨rfl, rfl, rfl⟩
theorem jamD2 : Statement (.jamD2) := ⟨rfl, rfl, rfl⟩
theorem dcpIzy (z : Byte) : Statement (.dcpIzy z) := ⟨rfl, rfl, rfl⟩
theorem nopZpxD4 (z : Byte) : Statement (.nopZpxD4 z) := ⟨rfl, rfl, rfl⟩
theorem cmpZpx (z : Byte) : Statement (.cmpZpx z) := ⟨rfl, rfl, rfl⟩
theorem decZpx (z : Byte) : Statement (.decZpx z) := ⟨rfl, rfl, rfl⟩
theorem dcpZpx (z : Byte) : Statement (.dcpZpx z) := ⟨rfl, rfl, rfl⟩
theorem cld : Statement (.cld) := ⟨rfl, rfl, rfl⟩
theorem cmpAbsy (l h : Byte) : Statement (.cmpAbsy l h) := ⟨rfl, rfl, rfl⟩
theorem nopImpDA : Statement (.nopImpDA) := ⟨rfl, rfl, rfl⟩
theorem dcpAbsy (l h : Byte) : Statement (.dcpAbsy l h) := ⟨rfl, rfl, rfl⟩
theorem nopAbsxDC (l h : Byte) : Statement (.nopAbsxDC l h) := ⟨rfl, rfl, rfl⟩
theorem cmpAbsx (l h : Byte) : Statement (.cmpAbsx l h) := ⟨rfl, rfl, rfl⟩
theorem decAbsx (l h : Byte) : Statement (.decAbsx l h) := ⟨rfl, rfl, rfl⟩
theorem dcpAbsx (l h : Byte) : Statement (.dcpAbsx l h) := ⟨rfl, rfl, rfl⟩
theorem cpxImm (v : Byte) : Statement (.cpxImm v) := ⟨rfl, rfl, rfl⟩
theorem sbcIzx (z : Byte) : Statement (.sbcIzx z) := ⟨rfl, rfl, rfl⟩
theorem nopImmE2 (v : Byte) : Statement (.nopImmE2 v) := ⟨rfl, rfl, rfl⟩
theorem isbIzx (z : Byte) : Statement (.isbIzx z) := ⟨rfl, rfl, rfl⟩
theorem cpxZp (z : Byte) : Statement (.cpxZp z) := ⟨rfl, rfl, rfl⟩
theorem sbcZp (z : Byte) : Statement (.sbcZp z) := ⟨rfl, rfl, rfl⟩
theorem incZp (z : Byte) : Statement (.incZp z) := ⟨rfl, rfl, rfl⟩
theorem isbZp (z : Byte) : Statement (.isbZp z) := ⟨rfl, rfl, rfl⟩
theorem inx : Statement (.inx) := ⟨rfl, rfl, rfl⟩
theorem sbcImm (v : Byte) : Statement (.sbcImm v) := ⟨rfl, rfl, rfl⟩
theorem nop : Statement (.nop) := ⟨rfl, rfl, rfl⟩
theorem sbcImmEB (v : Byte) : Statement (.sbcImmEB v) := ⟨rfl, rfl, rfl⟩
theorem cpxAbs (l h : Byte) : Statement (.cpxAbs l h) := ⟨rfl, rfl, rfl⟩
theorem sbcAbs (l h : Byte) : Statement (.sbcAbs l h) := ⟨rfl, rfl, rfl⟩
theorem incAbs (l h : Byte) : Statement (.incAbs l h) := ⟨rfl, rfl, rfl⟩
theorem isbAbs (l h : Byte) : Statement (.isbAbs l h) := ⟨rfl, rfl, rfl⟩
theorem beq (r : Byte) : Statement (.beq r) := ⟨rfl, rfl, rfl⟩
theorem sbcIzy (z : Byte) : Statement (.sbcIzy z) := ⟨rfl, rfl, rfl⟩
theorem jamF2 : Statement (.jamF2) := ⟨rfl, rfl, rfl⟩
theorem isbIzy (z : Byte) : Statement (.isbIzy z) := ⟨rfl, rfl, rfl⟩
theorem nopZpxF4 (z : Byte) : Statement (.nopZpxF4 z) := ⟨rfl, rfl, rfl⟩
theorem sbcZpx (z : Byte) : Statement (.sbcZpx z) := ⟨rfl, rfl, rfl⟩
theorem incZpx (z : Byte) : Statement (.incZpx z) := ⟨rfl, rfl, rfl⟩
theorem isbZpx (z : Byte) : Statement (.isbZpx z) := ⟨rfl, rfl, rfl⟩
theorem sed : Statement (.sed) := ⟨rfl, rfl, rfl⟩
theorem sbcAbsy (l h : Byte) : Statement (.sbcAbsy l h) := ⟨rfl, rfl, rfl⟩
theorem nopImpFA : Statement (.nopImpFA) := ⟨rfl, rfl, rfl⟩
theorem isbAbsy (l h : Byte) : Statement (.isbAbsy l h) := ⟨rfl, rfl, rfl⟩
theorem nopAbsxFC (l h : Byte) : Statement (.nopAbsxFC l h) := ⟨rfl, rfl, rfl⟩
theorem sbcAbsx (l h : Byte) : Statement (.sbcAbsx l h) := ⟨rfl, rfl, rfl⟩
theorem incAbsx (l h : Byte) : Statement (.incAbsx l h) := ⟨rfl, rfl, rfl⟩
theorem isbAbsx (l h : Byte) : Statement (.isbAbsx l h) := ⟨rfl, rfl, rfl⟩

end Sys2Proof.Laws.EncodedLength
end

