-- ==== Sys2Proof/Laws/Reset.lean ====
section
/-! SUPPORT. What the resets and an insert do to the CPU's page table below $8000 (70_reset_and_hazards.md R592; 63_mapper.md R506), that
draws move only their own count, and that a load keeps the image (10_state.md R75). -/

namespace Sys2Proof.Machine

/-- Draws move only their count. -/
theorem takeDraws_state (n : Nat) (s : State) : (takeDraws n s).2 = { s with draws := (takeDraws n s).2.draws } := by
  induction n generalizing s with
  | zero => rfl
  | succ n ih => unfold takeDraws; dsimp only; rw [ih]; rfl

@[simp] theorem takeDraws_pages (n : Nat) (s : State) : (takeDraws n s).2.pages = s.pages := by rw [takeDraws_state]

/-- The CPU's reset moves no page. -/
theorem cpuReset_pages (s : State) : (cpuReset s).pages = s.pages := by
  unfold cpuReset
  split
  · rfl
  · dsimp only
    rw [setPc_pages, (memRead16_frame _ _).pages]
    rfl

/-- A soft reset keeps the CPU pages below $8000. -/
theorem softReset_lowPages (s : State) (i : Fin 16) (h : i.val < 8) : (softReset s).pages.get i = s.pages.get i := by
  unfold softReset
  dsimp only
  rw [cpuReset_pages]
  exact (mapperReset_frame (apuReset (ppuReset s))).1.lowPages i h

theorem drawChrRam_pages (s : State) : (drawChrRam s).pages = s.pages := by
  unfold drawChrRam
  generalize e : takeDraws 8192 s = r
  have h : r.2.pages = s.pages := by rw [← e, takeDraws_pages]
  split
  · exact h
  · rfl

theorem takeDraws_three_pages (n o p : Nat) (s : State) (m : Mems) (q : Ppu) :
    ({ (takeDraw (takeDraws p (takeDraws o (takeDraws n s).2).2).2).2 with mem := m, ppu := q } : State).pages = s.pages := by
  simp only [takeDraw_pages, takeDraws_pages]

theorem drawPpuMemories_pages (s : State) : (drawPpuMemories s).pages = s.pages := takeDraws_three_pages 4096 256 32 s _ _

theorem drawRegisters_pages (s : State) : (drawRegisters s).pages = s.pages := rfl

/-- A hard reset keeps the CPU pages below $8000. -/
theorem hardReset_lowPages (s : State) (i : Fin 16) (h : i.val < 8) : (hardReset s).pages.get i = s.pages.get i := by
  unfold hardReset
  dsimp only
  rw [softReset_lowPages _ _ h]
  rw [drawRegisters_pages, drawPpuMemories_pages, drawChrRam_pages]

/-- An insert sets the CPU pages below $8000. -/
theorem attach_lowPages (c : Cart) (image : List Byte) (battery : Option (List Byte)) (s : State) (i : Fin 16) (h : i.val < 8) :
    (attach c image battery s).pages.get i = insertPages.get i := by
  unfold attach
  generalize takeDraws 8192 s = d
  dsimp only
  rw [(mapperInit_frame _).lowPages i h, (defaultMapping_frame _).lowPages i h]

/-- What the test of a load says: the header, the PRG bytes and, where there is any, the CHR-ROM are the same. -/
theorem sameImage_iff {k : Snapshot} {s : State} :
    sameImage k s = true ↔ k.cart = s.cart ∧ k.mem.prg = s.mem.prg ∧ (s.cart.chrBanks = 0 ∨ k.mem.chr = s.mem.chr) := by
  simp [sameImage, and_assoc]

/-- A load of a state of this image is a restore. -/
theorem loadSnapshot_of_same {k : Snapshot} {s : State} (h : sameImage k s = true) : loadSnapshot k s = restoreSnapshot k s := if_pos h

/-- A load of a state of another image moves only the status. -/
theorem loadSnapshot_of_other {k : Snapshot} {s : State} (h : sameImage k s ≠ true) :
    loadSnapshot k s = { s with host := { s.host with status := .otherCartridge } } := if_neg h

/-- No load changes the image (10_state.md R75). -/
theorem loadSnapshot_image (k : Snapshot) (s : State) :
    (loadSnapshot k s).cart = s.cart ∧ (loadSnapshot k s).mem.prg = s.mem.prg ∧
      (s.cart.chrBanks ≠ 0 → (loadSnapshot k s).mem.chr = s.mem.chr) := by
  by_cases h : sameImage k s = true
  · obtain ⟨hc, hp, hr⟩ := sameImage_iff.mp h
    rw [loadSnapshot_of_same h]
    exact ⟨hc, hp, fun h0 => hr.resolve_left h0⟩
  · rw [loadSnapshot_of_other h]
    exact ⟨rfl, rfl, fun _ => rfl⟩

end Sys2Proof.Machine
end

