-- ==== Sys2Proof/Tests/Slice0.lean ====
section
/-! SUPPORT. The model's own tests. Decoding: each constructor's word, written from the encodings of 30_encoding.md R171 and R190. Single
instructions and accesses: the vectors of 95_test_vectors.md, named by their ids, and the examples in the rules of 45_jam_undocumented.md.
Witnesses: for each obligation with hypotheses, values that meet them. -/

namespace Sys2Proof.Tests

open Sys2Proof.Machine Sys2Proof.Claims

/-! ### Well-formedness refuses what no rule gives -/

theorem test_sta_has_no_immediate : formWellFormed (.STA, .imm 0) = false := by decide
theorem test_jmp_has_no_zero_page : formWellFormed (.JMP, .zp 0) = false := by decide
theorem test_ldx_has_no_x_index : formWellFormed (.LDX, .zpx 0) = false := by decide
theorem test_tax_has_no_operand : formWellFormed (.TAX, .acc) = false := by decide
theorem test_bne_is_relative_only : formWellFormed (.BNE, .abs 0 0) = false := by decide
theorem test_brk_has_a_padding_byte : formWellFormed (.BRK, .imp) = false := by decide

/-- Each list of bytes decodes whole, to the instruction beside it. -/
def reads (words : List (List Byte)) (instrs : List Instr) : Prop :=
  words.map decode = instrs.map (fun i => .ok (i, []))

/-! ### Decoding: one word for each constructor. The operand bytes are $12 and $34, BRK's padding byte $EA. -/

theorem test_decode_row_0 : reads
    [[0x00, 0xEA], [0x01, 0x12], [0x02], [0x03, 0x12], [0x04, 0x12], [0x05, 0x12], [0x06, 0x12], [0x07, 0x12], [0x08],
     [0x09, 0x12], [0x0A], [0x0B, 0x12], [0x0C, 0x12, 0x34], [0x0D, 0x12, 0x34], [0x0E, 0x12, 0x34], [0x0F, 0x12, 0x34]]
    [.brk, .oraIzx 0x12, .jam02, .sloIzx 0x12, .nopZp04 0x12, .oraZp 0x12, .aslZp 0x12, .sloZp 0x12, .php, .oraImm 0x12, .aslAcc,
     .ancImm0B 0x12, .nopAbs 0x12 0x34, .oraAbs 0x12 0x34, .aslAbs 0x12 0x34, .sloAbs 0x12 0x34] := by
  rfl

theorem test_decode_row_1 : reads
    [[0x10, 0x12], [0x11, 0x12], [0x12], [0x13, 0x12], [0x14, 0x12], [0x15, 0x12], [0x16, 0x12], [0x17, 0x12], [0x18],
     [0x19, 0x12, 0x34], [0x1A], [0x1B, 0x12, 0x34], [0x1C, 0x12, 0x34], [0x1D, 0x12, 0x34], [0x1E, 0x12, 0x34],
     [0x1F, 0x12, 0x34]]
    [.bpl 0x12, .oraIzy 0x12, .jam12, .sloIzy 0x12, .nopZpx14 0x12, .oraZpx 0x12, .aslZpx 0x12, .sloZpx 0x12, .clc,
     .oraAbsy 0x12 0x34, .nopImp1A, .sloAbsy 0x12 0x34, .nopAbsx1C 0x12 0x34, .oraAbsx 0x12 0x34, .aslAbsx 0x12 0x34,
     .sloAbsx 0x12 0x34] := by
  rfl

theorem test_decode_row_2 : reads
    [[0x20, 0x12, 0x34], [0x21, 0x12], [0x22], [0x23, 0x12], [0x24, 0x12], [0x25, 0x12], [0x26, 0x12], [0x27, 0x12], [0x28],
     [0x29, 0x12], [0x2A], [0x2B, 0x12], [0x2C, 0x12, 0x34], [0x2D, 0x12, 0x34], [0x2E, 0x12, 0x34], [0x2F, 0x12, 0x34]]
    [.jsrAbs 0x12 0x34, .andIzx 0x12, .jam22, .rlaIzx 0x12, .bitZp 0x12, .andZp 0x12, .rolZp 0x12, .rlaZp 0x12, .plp,
     .andImm 0x12, .rolAcc, .ancImm2B 0x12, .bitAbs 0x12 0x34, .andAbs 0x12 0x34, .rolAbs 0x12 0x34, .rlaAbs 0x12 0x34] := by
  rfl

theorem test_decode_row_3 : reads
    [[0x30, 0x12], [0x31, 0x12], [0x32], [0x33, 0x12], [0x34, 0x12], [0x35, 0x12], [0x36, 0x12], [0x37, 0x12], [0x38],
     [0x39, 0x12, 0x34], [0x3A], [0x3B, 0x12, 0x34], [0x3C, 0x12, 0x34], [0x3D, 0x12, 0x34], [0x3E, 0x12, 0x34],
     [0x3F, 0x12, 0x34]]
    [.bmi 0x12, .andIzy 0x12, .jam32, .rlaIzy 0x12, .nopZpx34 0x12, .andZpx 0x12, .rolZpx 0x12, .rlaZpx 0x12, .sec,
     .andAbsy 0x12 0x34, .nopImp3A, .rlaAbsy 0x12 0x34, .nopAbsx3C 0x12 0x34, .andAbsx 0x12 0x34, .rolAbsx 0x12 0x34,
     .rlaAbsx 0x12 0x34] := by
  rfl

theorem test_decode_row_4 : reads
    [[0x40], [0x41, 0x12], [0x42], [0x43, 0x12], [0x44, 0x12], [0x45, 0x12], [0x46, 0x12], [0x47, 0x12], [0x48], [0x49, 0x12],
     [0x4A], [0x4B, 0x12], [0x4C, 0x12, 0x34], [0x4D, 0x12, 0x34], [0x4E, 0x12, 0x34], [0x4F, 0x12, 0x34]]
    [.rti, .eorIzx 0x12, .jam42, .sreIzx 0x12, .nopZp44 0x12, .eorZp 0x12, .lsrZp 0x12, .sreZp 0x12, .pha, .eorImm 0x12, .lsrAcc,
     .alrImm 0x12, .jmpAbs 0x12 0x34, .eorAbs 0x12 0x34, .lsrAbs 0x12 0x34, .sreAbs 0x12 0x34] := by
  rfl

theorem test_decode_row_5 : reads
    [[0x50, 0x12], [0x51, 0x12], [0x52], [0x53, 0x12], [0x54, 0x12], [0x55, 0x12], [0x56, 0x12], [0x57, 0x12], [0x58],
     [0x59, 0x12, 0x34], [0x5A], [0x5B, 0x12, 0x34], [0x5C, 0x12, 0x34], [0x5D, 0x12, 0x34], [0x5E, 0x12, 0x34],
     [0x5F, 0x12, 0x34]]
    [.bvc 0x12, .eorIzy 0x12, .jam52, .sreIzy 0x12, .nopZpx54 0x12, .eorZpx 0x12, .lsrZpx 0x12, .sreZpx 0x12, .cli,
     .eorAbsy 0x12 0x34, .nopImp5A, .sreAbsy 0x12 0x34, .nopAbsx5C 0x12 0x34, .eorAbsx 0x12 0x34, .lsrAbsx 0x12 0x34,
     .sreAbsx 0x12 0x34] := by
  rfl

theorem test_decode_row_6 : reads
    [[0x60], [0x61, 0x12], [0x62], [0x63, 0x12], [0x64, 0x12], [0x65, 0x12], [0x66, 0x12], [0x67, 0x12], [0x68], [0x69, 0x12],
     [0x6A], [0x6B, 0x12], [0x6C, 0x12, 0x34], [0x6D, 0x12, 0x34], [0x6E, 0x12, 0x34], [0x6F, 0x12, 0x34]]
    [.rts, .adcIzx 0x12, .jam62, .rraIzx 0x12, .nopZp64 0x12, .adcZp 0x12, .rorZp 0x12, .rraZp 0x12, .pla, .adcImm 0x12, .rorAcc,
     .arrImm 0x12, .jmpInd 0x12 0x34, .adcAbs 0x12 0x34, .rorAbs 0x12 0x34, .rraAbs 0x12 0x34] := by
  rfl

theorem test_decode_row_7 : reads
    [[0x70, 0x12], [0x71, 0x12], [0x72], [0x73, 0x12], [0x74, 0x12], [0x75, 0x12], [0x76, 0x12], [0x77, 0x12], [0x78],
     [0x79, 0x12, 0x34], [0x7A], [0x7B, 0x12, 0x34], [0x7C, 0x12, 0x34], [0x7D, 0x12, 0x34], [0x7E, 0x12, 0x34],
     [0x7F, 0x12, 0x34]]
    [.bvs 0x12, .adcIzy 0x12, .jam72, .rraIzy 0x12, .nopZpx74 0x12, .adcZpx 0x12, .rorZpx 0x12, .rraZpx 0x12, .sei,
     .adcAbsy 0x12 0x34, .nopImp7A, .rraAbsy 0x12 0x34, .nopAbsx7C 0x12 0x34, .adcAbsx 0x12 0x34, .rorAbsx 0x12 0x34,
     .rraAbsx 0x12 0x34] := by
  rfl

theorem test_decode_row_8 : reads
    [[0x80, 0x12], [0x81, 0x12], [0x82, 0x12], [0x83, 0x12], [0x84, 0x12], [0x85, 0x12], [0x86, 0x12], [0x87, 0x12], [0x88],
     [0x89, 0x12], [0x8A], [0x8B, 0x12], [0x8C, 0x12, 0x34], [0x8D, 0x12, 0x34], [0x8E, 0x12, 0x34], [0x8F, 0x12, 0x34]]
    [.nopImm80 0x12, .staIzx 0x12, .nopImm82 0x12, .saxIzx 0x12, .styZp 0x12, .staZp 0x12, .stxZp 0x12, .saxZp 0x12, .dey,
     .nopImm89 0x12, .txa, .aneImm 0x12, .styAbs 0x12 0x34, .staAbs 0x12 0x34, .stxAbs 0x12 0x34, .saxAbs 0x12 0x34] := by
  rfl

theorem test_decode_row_9 : reads
    [[0x90, 0x12], [0x91, 0x12], [0x92], [0x93, 0x12], [0x94, 0x12], [0x95, 0x12], [0x96, 0x12], [0x97, 0x12], [0x98],
     [0x99, 0x12, 0x34], [0x9A], [0x9B, 0x12, 0x34], [0x9C, 0x12, 0x34], [0x9D, 0x12, 0x34], [0x9E, 0x12, 0x34],
     [0x9F, 0x12, 0x34]]
    [.bcc 0x12, .staIzy 0x12, .jam92, .shaIzy 0x12, .styZpx 0x12, .staZpx 0x12, .stxZpy 0x12, .saxZpy 0x12, .tya,
     .staAbsy 0x12 0x34, .txs, .tasAbsy 0x12 0x34, .shyAbsx 0x12 0x34, .staAbsx 0x12 0x34, .shxAbsy 0x12 0x34, .shaAbsy 0x12 0x34] := by
  rfl

theorem test_decode_row_A : reads
    [[0xA0, 0x12], [0xA1, 0x12], [0xA2, 0x12], [0xA3, 0x12], [0xA4, 0x12], [0xA5, 0x12], [0xA6, 0x12], [0xA7, 0x12], [0xA8],
     [0xA9, 0x12], [0xAA], [0xAB, 0x12], [0xAC, 0x12, 0x34], [0xAD, 0x12, 0x34], [0xAE, 0x12, 0x34], [0xAF, 0x12, 0x34]]
    [.ldyImm 0x12, .ldaIzx 0x12, .ldxImm 0x12, .laxIzx 0x12, .ldyZp 0x12, .ldaZp 0x12, .ldxZp 0x12, .laxZp 0x12, .tay,
     .ldaImm 0x12, .tax, .lxaImm 0x12, .ldyAbs 0x12 0x34, .ldaAbs 0x12 0x34, .ldxAbs 0x12 0x34, .laxAbs 0x12 0x34] := by
  rfl

theorem test_decode_row_B : reads
    [[0xB0, 0x12], [0xB1, 0x12], [0xB2], [0xB3, 0x12], [0xB4, 0x12], [0xB5, 0x12], [0xB6, 0x12], [0xB7, 0x12], [0xB8],
     [0xB9, 0x12, 0x34], [0xBA], [0xBB, 0x12, 0x34], [0xBC, 0x12, 0x34], [0xBD, 0x12, 0x34], [0xBE, 0x12, 0x34],
     [0xBF, 0x12, 0x34]]
    [.bcs 0x12, .ldaIzy 0x12, .jamB2, .laxIzy 0x12, .ldyZpx 0x12, .ldaZpx 0x12, .ldxZpy 0x12, .laxZpy 0x12, .clv,
     .ldaAbsy 0x12 0x34, .tsx, .lasAbsy 0x12 0x34, .ldyAbsx 0x12 0x34, .ldaAbsx 0x12 0x34, .ldxAbsy 0x12 0x34, .laxAbsy 0x12 0x34] := by
  rfl

theorem test_decode_row_C : reads
    [[0xC0, 0x12], [0xC1, 0x12], [0xC2, 0x12], [0xC3, 0x12], [0xC4, 0x12], [0xC5, 0x12], [0xC6, 0x12], [0xC7, 0x12], [0xC8],
     [0xC9, 0x12], [0xCA], [0xCB, 0x12], [0xCC, 0x12, 0x34], [0xCD, 0x12, 0x34], [0xCE, 0x12, 0x34], [0xCF, 0x12, 0x34]]
    [.cpyImm 0x12, .cmpIzx 0x12, .nopImmC2 0x12, .dcpIzx 0x12, .cpyZp 0x12, .cmpZp 0x12, .decZp 0x12, .dcpZp 0x12, .iny,
     .cmpImm 0x12, .dex, .axsImm 0x12, .cpyAbs 0x12 0x34, .cmpAbs 0x12 0x34, .decAbs 0x12 0x34, .dcpAbs 0x12 0x34] := by
  rfl

theorem test_decode_row_D : reads
    [[0xD0, 0x12], [0xD1, 0x12], [0xD2], [0xD3, 0x12], [0xD4, 0x12], [0xD5, 0x12], [0xD6, 0x12], [0xD7, 0x12], [0xD8],
     [0xD9, 0x12, 0x34], [0xDA], [0xDB, 0x12, 0x34], [0xDC, 0x12, 0x34], [0xDD, 0x12, 0x34], [0xDE, 0x12, 0x34],
     [0xDF, 0x12, 0x34]]
    [.bne 0x12, .cmpIzy 0x12, .jamD2, .dcpIzy 0x12, .nopZpxD4 0x12, .cmpZpx 0x12, .decZpx 0x12, .dcpZpx 0x12, .cld,
     .cmpAbsy 0x12 0x34, .nopImpDA, .dcpAbsy 0x12 0x34, .nopAbsxDC 0x12 0x34, .cmpAbsx 0x12 0x34, .decAbsx 0x12 0x34,
     .dcpAbsx 0x12 0x34] := by
  rfl

theorem test_decode_row_E : reads
    [[0xE0, 0x12], [0xE1, 0x12], [0xE2, 0x12], [0xE3, 0x12], [0xE4, 0x12], [0xE5, 0x12], [0xE6, 0x12], [0xE7, 0x12], [0xE8],
     [0xE9, 0x12], [0xEA], [0xEB, 0x12], [0xEC, 0x12, 0x34], [0xED, 0x12, 0x34], [0xEE, 0x12, 0x34], [0xEF, 0x12, 0x34]]
    [.cpxImm 0x12, .sbcIzx 0x12, .nopImmE2 0x12, .isbIzx 0x12, .cpxZp 0x12, .sbcZp 0x12, .incZp 0x12, .isbZp 0x12, .inx,
     .sbcImm 0x12, .nop, .sbcImmEB 0x12, .cpxAbs 0x12 0x34, .sbcAbs 0x12 0x34, .incAbs 0x12 0x34, .isbAbs 0x12 0x34] := by
  rfl

theorem test_decode_row_F : reads
    [[0xF0, 0x12], [0xF1, 0x12], [0xF2], [0xF3, 0x12], [0xF4, 0x12], [0xF5, 0x12], [0xF6, 0x12], [0xF7, 0x12], [0xF8],
     [0xF9, 0x12, 0x34], [0xFA], [0xFB, 0x12, 0x34], [0xFC, 0x12, 0x34], [0xFD, 0x12, 0x34], [0xFE, 0x12, 0x34],
     [0xFF, 0x12, 0x34]]
    [.beq 0x12, .sbcIzy 0x12, .jamF2, .isbIzy 0x12, .nopZpxF4 0x12, .sbcZpx 0x12, .incZpx 0x12, .isbZpx 0x12, .sed,
     .sbcAbsy 0x12 0x34, .nopImpFA, .isbAbsy 0x12 0x34, .nopAbsxFC 0x12 0x34, .sbcAbsx 0x12 0x34, .incAbsx 0x12 0x34,
     .isbAbsx 0x12 0x34] := by
  rfl

theorem test_decode_short : decode [0xAD, 0x12] = .error .missingOperand := by rfl
theorem test_decode_empty : decode [] = .error .noOpcode := by rfl
theorem test_table_word : decodeTableWord 24 0x3412AD = some (.ldaAbs 0x12 0x34) := by decide
theorem test_table_word_operand_zero : decodeTableWord 8 0xA9 = some (.ldaImm 0) := by decide

/-! ### Helpers -/

/-- A state inside a slice: S = $FF, pc = $8000, all flags 0. -/
def base : State :=
  { State.reset with
    cpu := ⟨0, 0, 0, 0xFF, 0x8000, ⟨false, false, false, false, false, false⟩⟩
    run := ⟨0, 50, 0, false, false, false⟩
    orch := ⟨0, 0, false, .slice .line 0, false⟩ }

/-- The state after an outcome, `base` if it is a stop. -/
def ran (r : Result) : State :=
  match r with
  | .next s => s
  | .fault _ => base
  | .refused _ => base

def withRam (cells : List (Nat × Byte)) (s : State) : State :=
  { s with mem := { s.mem with ram := cells.foldl (fun m c => m.write c.1 c.2) s.mem.ram } }

def withPrg (k : Nat) (bytes : List Byte) (s : State) : State :=
  { s with mem := { s.mem with prg := s.mem.prg.writeBytes k bytes } }

def withA (v : Byte) (s : State) : State := { s with cpu := { s.cpu with a := v } }
def withX (v : Byte) (s : State) : State := { s with cpu := { s.cpu with x := v } }
def withY (v : Byte) (s : State) : State := { s with cpu := { s.cpu with y := v } }
def withS (v : Byte) (s : State) : State := { s with cpu := { s.cpu with sp := v } }
def withPc (v : Addr) (s : State) : State := { s with cpu := { s.cpu with pc := v } }
def withC (s : State) : State := { s with cpu := { s.cpu with f := { s.cpu.f with c := true } } }
def withI (s : State) : State := { s with cpu := { s.cpu with f := { s.cpu.f with i := true } } }
def withPolicy (p : UndocPolicy) (s : State) : State := { s with undocPolicy := p }

/-- N, V, D, I, Z, C of a state. -/
def nvdizc (s : State) : List Bool := [s.cpu.f.n, s.cpu.f.v, s.cpu.f.d, s.cpu.f.i, s.cpu.f.z, s.cpu.f.c]

/-! ### Loads and stores (95_test_vectors.md 2.1) -/

theorem test_V_LS_2 : let t := ran (exec (.ldaImm 0x80) base); t.cpu.a = 0x80 ∧ t.cpu.f.n ∧ !t.cpu.f.z ∧ t.run.cycles = 2 := by decide
theorem test_V_LS_3 : let t := ran (exec (.ldaZpx 0xF0) (withX 0x20 (withRam [(0x10, 0x77)] base))); t.cpu.a = 0x77 ∧ t.run.cycles = 4 := by
  decide
theorem test_V_LS_4 :
    let t := ran (exec (.ldaAbsx 0xF0 0xFF) (withX 0x20 (withRam [(0x10, 0x55)] base))); t.cpu.a = 0x55 ∧ t.run.cycles = 5 := by decide
theorem test_V_LS_5 :
    let t := ran (exec (.ldaAbsy 0xFE 0x02) (withY 1 (withRam [(0x2FF, 0x11)] base))); t.cpu.a = 0x11 ∧ t.run.cycles = 4 := by decide
theorem test_V_LS_6 :
    let t := ran (exec (.ldaIzx 0xFE) (withX 1 (withRam [(0xFF, 0x34), (0, 0x12), (0x234, 0x99)] base)))
    t.cpu.a = 0x99 ∧ t.run.cycles = 6 := by decide
theorem test_V_LS_7 : (ran (exec (.styZpx 0x01) (withY 1 (withX 0xFF base)))).mem.ram = [(0, 1)] := by decide
theorem test_V_LS_8 :
    let t := ran (exec (.staAbsx 0xFF 0x02) (withX 1 (withA 0x42 base))); t.mem.ram = [(0x300, 0x42)] ∧ t.run.cycles = 5 := by decide
theorem test_V_LS_9 : let t := ran (exec (.staAbs 0x00 0x80) (withA 0x42 base)); t.mem.prg = [] ∧ t.pages = base.pages := by decide
theorem test_V_LS_10 : (ran (exec (.staAbs 0x00 0x08) (withA 0x42 base))).mem.ram = [(0, 0x42)] := by decide
theorem test_V_LS_11 : let t := ran (exec .txs (withX 0x80 base)); t.cpu.sp = 0x80 ∧ nvdizc t = nvdizc base := by decide
theorem test_V_LS_12 : let t := ran (exec .tsx (withS 0xFD base)); t.cpu.x = 0xFD ∧ t.cpu.f.n := by decide
theorem test_V_LS_14 :
    let t := ran (exec (.ldaAbs 0x02 0x20) { base with ppu := { base.ppu with vblank := true, w := true } })
    !t.ppu.vblank ∧ !t.ppu.w := by decide
/-- P3's store: base $1234, Y = $D0, EA $1304 is RAM $0304. -/
theorem test_sta_indirect_indexed :
    (ran (exec (.staIzy 0xFF) (withY 0xD0 (withA 0x5A (withRam [(0xFF, 0x34), (0, 0x12)] base))))).mem.ram.read 0x304 = 0x5A := by decide

/-! ### Arithmetic and logic (2.2) -/

theorem test_V_AL_1 : let t := ran (exec (.adcImm 0x50) (withA 0x50 base)); t.cpu.a = 0xA0 ∧ nvdizc t = [true, true, false, false, false, false] := by
  decide
theorem test_V_AL_2 : let t := ran (exec (.adcImm 0x90) (withA 0xD0 base)); t.cpu.a = 0x60 ∧ nvdizc t = [false, true, false, false, false, true] := by
  decide
theorem test_V_AL_5 :
    (ran (exec (.adcImm 1) { withA 9 base with cpu := { (withA 9 base).cpu with f := ⟨false, false, true, false, false, false⟩ } })).cpu.a = 0x0A := by
  decide
theorem test_V_AL_7 : let t := ran (exec (.sbcImm 0xB0) (withA 0x50 (withC base))); t.cpu.a = 0xA0 ∧ nvdizc t = [true, true, false, false, false, false] := by
  decide
theorem test_V_AL_9 : let t := ran (exec (.sbcImm 1) (withA 0x80 (withC base))); t.cpu.a = 0x7F ∧ nvdizc t = [false, true, false, false, false, true] := by
  decide
theorem test_V_AL_11 : nvdizc (ran (exec (.cmpImm 0xFF) (withA 1 base))) = [false, false, false, false, false, false] := by decide
theorem test_V_AL_12 : nvdizc (ran (exec (.cpxImm 0) base)) = [false, false, false, false, true, true] := by decide
theorem test_V_AL_13 :
    let t := ran (exec (.bitZp 0x10) (withA 0x0F (withRam [(0x10, 0xF0)] base)))
    t.cpu.a = 0x0F ∧ nvdizc t = [true, true, false, false, true, false] := by decide
theorem test_V_AL_14 : let t := ran (exec (.andImm 0x0F) (withA 0xF0 base)); t.cpu.a = 0 ∧ t.cpu.f.z := by decide
theorem test_V_AL_15 : let t := ran (exec (.eorImm 0xFF) (withA 0x0F base)); t.cpu.a = 0xF0 ∧ t.cpu.f.n := by decide
theorem test_V_AL_17 : let t := ran (exec (.decZp 0x10) base); t.mem.ram = [(0x10, 0xFF)] ∧ t.cpu.f.n := by decide
theorem test_V_AL_18 :
    let t := ran (exec (.incAbsx 0x01 0x02) (withX 0xFF (withRam [(0x300, 0x7F)] base))); t.mem.ram = [(0x300, 0x80)] ∧ t.run.cycles = 7 := by decide
theorem test_V_AL_19 : let t := ran (exec .dey base); t.cpu.y = 0xFF ∧ t.cpu.f.n := by decide

/-! ### Shifts (2.3) -/

theorem test_V_SR_1 : let t := ran (exec .aslAcc (withA 0x80 base)); t.cpu.a = 0 ∧ nvdizc t = [false, false, false, false, true, true] := by decide
theorem test_V_SR_2 : let t := ran (exec .lsrAcc (withA 1 base)); t.cpu.a = 0 ∧ nvdizc t = [false, false, false, false, true, true] := by decide
theorem test_V_SR_3 : let t := ran (exec .rolAcc (withA 0x80 (withC base))); t.cpu.a = 1 ∧ t.cpu.f.c ∧ !t.cpu.f.n := by decide
theorem test_V_SR_4 : let t := ran (exec .rorAcc (withA 1 (withC base))); t.cpu.a = 0x80 ∧ t.cpu.f.c ∧ t.cpu.f.n := by decide
theorem test_V_SR_6 :
    let t := ran (exec (.aslAbsx 0x00 0x03) (withRam [(0x300, 0x81)] base)); t.mem.ram = [(0x300, 0x02)] ∧ t.cpu.f.c ∧ t.run.cycles = 7 := by decide

/-! ### Control transfer (2.4): pc stands after the instruction -/

theorem test_V_CT_1 :
    let t := ran (exec (.bne 0x10) { base with cpu := { base.cpu with pc := 0x8002, f := { base.cpu.f with z := true } } })
    t.cpu.pc = 0x8002 ∧ t.run.cycles = 2 := by decide
theorem test_V_CT_3 : let t := ran (exec (.bcs 0x01) (withPc 0x80FF (withC base))); t.cpu.pc = 0x8100 ∧ t.run.cycles = 4 := by decide
theorem test_V_CT_5 : let t := ran (exec (.bpl 0xFE) (withPc 0x8100 base)); t.cpu.pc = 0x80FE ∧ t.run.cycles = 4 := by decide
theorem test_V_CT_6 :
    let t := ran (exec (.jmpInd 0xFF 0x02) (withRam [(0x2FF, 0x20), (0x200, 0x80), (0x300, 0x90)] base))
    t.cpu.pc = 0x8020 ∧ t.run.cycles = 5 := by decide
theorem test_V_CT_8 :
    let t := ran (exec (.jsrAbs 0x00 0x90) (withS 0 (withPc 0x8008 base)))
    t.mem.ram = [(0x100, 0x80), (0x1FF, 0x07)] ∧ t.cpu.sp = 0xFE ∧ t.cpu.pc = 0x9000 := by decide
theorem test_V_CT_9 :
    let t := ran (exec .rts (withS 0xFD (withRam [(0x1FE, 0xFF), (0x1FF, 0xFF)] base))); t.cpu.pc = 0 ∧ t.cpu.sp = 0xFF := by decide
theorem test_V_CT_10 :
    let t := ran (exec .brk (withPc 0x8005 (withC (withPrg 0x3FFE [0x00, 0x90] base))))
    t.mem.ram = [(0x1FD, 0x31), (0x1FE, 0x06), (0x1FF, 0x80)] ∧ t.cpu.sp = 0xFC ∧ t.cpu.f.i ∧ t.cpu.pc = 0x9000 := by decide
theorem test_V_CT_11 :
    let t := ran (exec .rti (withS 0xFC (withRam [(0x1FD, 0xC3), (0x1FE, 0x34), (0x1FF, 0x12)] base)))
    nvdizc t = [true, true, false, false, true, true] ∧ t.cpu.pc = 0x1234 ∧ t.cpu.sp = 0xFF := by decide

/-! ### Stack and flags (2.5) -/

theorem test_V_SF_1 : let t := ran (exec .pha (withS 0 (withA 0x42 base))); t.mem.ram = [(0x100, 0x42)] ∧ t.cpu.sp = 0xFF := by decide
theorem test_V_SF_2 : let t := ran (exec .pla (withRam [(0x100, 0x80)] base)); t.cpu.a = 0x80 ∧ t.cpu.f.n ∧ t.cpu.sp = 0 := by decide
theorem test_V_SF_3 : (ran (exec .php base)).mem.ram = [(0x1FF, 0x30)] := by decide
theorem test_V_SF_4 : nvdizc (ran (exec .plp (withS 0xFE (withRam [(0x1FF, 0xFF)] base)))) = [true, true, true, true, true, true] := by decide
theorem test_V_SF_7 : (ran (exec .clv { base with cpu := { base.cpu with f := { base.cpu.f with v := true } } })).cpu.f.v = false := by decide

/-! ### JAM and the undocumented opcodes (2.6, and the examples of 45_jam_undocumented.md R317-R333) -/

theorem test_V_JU_1 :
    let t := ran (step (withPrg 0 [0x02] base)); t.cpu.pc = 0x8000 ∧ t.run.jammed ∧ t.run.remaining = 0 := by decide
theorem test_V_JU_5 :
    let t := ran (step (withPolicy .refuse (withPrg 0 [0x1A] base))); t.cpu.pc = 0x8000 ∧ t.run.refused ∧ t.run.cycles = 0 := by decide
theorem test_V_JU_7 : let t := ran (step (withPolicy .nmos (withPrg 0 [0x1A] base))); t.cpu.pc = 0x8001 ∧ t.run.cycles = 2 := by decide
/-- 60_exceptions.md R351: the JAM came from a dead page, whose next read is another byte; the jammed CPU jams again. -/
theorem test_jam_again :
    let t := ran (step { withPrg 0 [0xE8] base with run := ⟨0, 50, 0, false, true, false⟩ })
    t.cpu.pc = 0x8000 ∧ t.cpu.x = 0 ∧ t.run.jammed ∧ t.run.remaining = 0 := by decide
theorem test_reset_policy : State.reset.undocPolicy = .refuse := rfl
theorem test_V_JU_8 :
    let t := ran (exec (.nopAbs 0x02 0x20) { base with ppu := { base.ppu with vblank := true, w := true } }); !t.ppu.vblank ∧ !t.ppu.w := by decide
theorem test_V_JU_9 :
    let t := ran (exec (.sloZp 0x10) (withA 1 (withRam [(0x10, 0x80)] base))); t.mem.ram = [] ∧ t.cpu.f.c ∧ t.cpu.a = 1 := by decide
theorem test_V_JU_10 :
    let t := ran (exec (.rlaZp 0x10) (withA 0xFF (withC (withRam [(0x10, 0x40)] base))))
    t.mem.ram = [(0x10, 0x81)] ∧ t.cpu.a = 0x81 ∧ !t.cpu.f.c ∧ t.cpu.f.n := by decide
theorem test_V_JU_11 :
    let t := ran (exec (.sreZp 0x10) (withA 1 (withRam [(0x10, 0x03)] base))); t.mem.ram = [(0x10, 1)] ∧ t.cpu.f.c ∧ t.cpu.a = 0 ∧ t.cpu.f.z := by decide
theorem test_rra : let t := ran (exec (.rraZp 0x10) (withA 0x10 (withRam [(0x10, 0x03)] base))); t.mem.ram = [(0x10, 1)] ∧ t.cpu.a = 0x12 ∧ !t.cpu.f.c := by
  decide
theorem test_sax : (ran (exec (.saxZp 0x10) (withX 0x3C (withA 0xF0 base)))).mem.ram = [(0x10, 0x30)] := by decide
theorem test_lax : let t := ran (exec (.laxZp 0x10) (withRam [(0x10, 0x80)] base)); t.cpu.a = 0x80 ∧ t.cpu.x = 0x80 ∧ t.cpu.f.n := by decide
theorem test_dcp :
    let t := ran (exec (.dcpZp 0x10) (withA 5 (withRam [(0x10, 6)] base))); t.mem.ram = [(0x10, 5)] ∧ t.cpu.f.z ∧ t.cpu.f.c := by decide
theorem test_isb :
    let t := ran (exec (.isbZp 0x10) (withA 0x10 (withC (withRam [(0x10, 1)] base)))); t.mem.ram = [(0x10, 2)] ∧ t.cpu.a = 0x0E ∧ t.cpu.f.c := by
  decide
theorem test_anc : let t := ran (exec (.ancImm0B 0x80) (withA 0xFF base)); t.cpu.a = 0x80 ∧ t.cpu.f.n ∧ t.cpu.f.c := by decide
theorem test_alr : let t := ran (exec (.alrImm 0x03) (withA 0xFF base)); t.cpu.a = 1 ∧ t.cpu.f.c := by decide
theorem test_arr : let t := ran (exec (.arrImm 0xFF) (withA 0xFF (withC base))); t.cpu.a = 0xFF ∧ t.cpu.f.c ∧ !t.cpu.f.v := by decide
theorem test_axs : let t := ran (exec (.axsImm 0x01) (withX 0xFF (withA 0x0F base))); t.cpu.x = 0x0E ∧ t.cpu.f.c := by decide
theorem test_las :
    let t := ran (exec (.lasAbsy 0x10 0x00) (withS 0xF0 (withRam [(0x10, 0x3F)] base))); t.cpu.a = 0x30 ∧ t.cpu.x = 0x30 ∧ t.cpu.sp = 0x30 := by
  decide
theorem test_sha : (ran (exec (.shaAbsy 0x00 0x02) (withX 0xFF (withA 0xFF base)))).mem.ram = [(0x200, 3)] := by decide
theorem test_shx : (ran (exec (.shxAbsy 0x00 0x03) (withY 0x10 (withX 0xFF base)))).mem.ram = [(0x310, 4)] := by decide
theorem test_shy : (ran (exec (.shyAbsx 0x00 0x03) (withY 1 (withRam [(0x300, 9)] base)))).mem.ram = [] := by decide
theorem test_tas :
    let t := ran (exec (.tasAbsy 0x00 0x07) (withX 0x3F (withA 0xF3 (withRam [(0x700, 9)] base)))); t.cpu.sp = 0x33 ∧ t.mem.ram = [] := by decide

/-! ### Bus, PPU, APU, mappers, frame loop, reset (2.7 to 2.13) -/

theorem test_V_MEM_1 : (memRead 0x07FF (memWrite 0x1FFF 0xAB base)).1 = 0xAB := by decide
theorem test_V_MEM_4 : (memRead 0x6000 (memWrite 0x6000 0x12 base)).1 = 0x12 := by decide
theorem test_V_MEM_6 : (memRead16 0xFFFC (withPrg 0x3FFC [0x00, 0x80] base)).1 = 0x8000 := by decide
theorem test_V_EXC_1 :
    let t := irq (withPrg 0x3FFE [0x00, 0x90] (withPc 0x8123 { base with cpu := { base.cpu with f := { base.cpu.f with n := true } } }))
    t.mem.ram = [(0x1FD, 0xA0), (0x1FE, 0x23), (0x1FF, 0x81)] ∧ t.cpu.sp = 0xFC ∧ t.cpu.f.i ∧ t.cpu.pc = 0x9000 ∧ t.run.burn = 7 := by decide
theorem test_V_EXC_7 :
    let t := enterExecute 2 { base with run := { base.run with burn := 3, intPending := true } }
    t.run.cycles = 2 ∧ t.run.remaining = 0 ∧ t.run.burn = 1 ∧ t.run.intPending := by decide
theorem test_V_PPU_1 :
    let s := { base with ppu := { base.ppu with v := 0x2108, rdbuf := 0x55 }, mem := { base.mem with nt := [(0x108, 0xAA)] } }
    let r := memRead 0x2007 s
    r.1 = 0x55 ∧ (memRead 0x2007 r.2).1 = 0xAA ∧ (memRead 0x2007 r.2).2.ppu.v = 0x210A := by decide
theorem test_V_PPU_3 : (memWrite 0x2007 0xFF { base with ppu := { base.ppu with v := 0x3F10 } }).mem.pal = [(0, 0x3F)] := by decide
theorem test_V_PPU_4 :
    let s := { base with ppu := { base.ppu with v := 0x3F00 }, mem := { base.mem with pal := [(0, 0x3F)], nt := [(0x700, 0x77)] } }
    (memRead 0x2007 s).1 = 0x3F ∧ (memRead 0x2007 s).2.ppu.rdbuf = 0x77 := by decide
theorem test_V_PPU_5 :
    let t := memWrite 0x2005 0x5E (memWrite 0x2005 0x7D base); t.ppu.fineX = 5 ∧ t.ppu.t = 0x616F ∧ !t.ppu.w := by decide
theorem test_V_PPU_6 : (memWrite 0x2000 0x03 { base with ppu := { base.ppu with t := 0x616F } }).ppu.t = 0x6D6F := by decide
theorem test_W4 :
    let s := (memRead 0x2002 (memWrite 0x2006 0x3F base)).2
    (memWrite 0x2006 0x08 (memWrite 0x2006 0x21 s)).ppu.v = 0x2108 := by decide
theorem test_V_PPU_14 : fineYStep 0x73A0 = 0x0800 := by decide
theorem test_V_PPU_15 : fineYStep 0x73E0 = 0x0000 := by decide
theorem test_V_PPU_16 : attributeAddr 0 5 6 = 0x23C9 := by decide
theorem test_V_PPU_20 : pixelByte true true 0x21 = 0xE1 := by decide
theorem test_V_APU_1 :
    let t := memWrite 0x4003 0x08 (memWrite 0x4015 0x01 base); t.apu.rect0.length = 127 ∧ (memRead 0x4015 t).2.fiq.occurred = false := by decide
theorem test_V_APU_4 :
    let t := memWrite 0x400B 0x08 (memWrite 0x4008 0x85 (memWrite 0x4015 0x04 base))
    t.apu.tri.length = 127 ∧ t.apu.tri.linear = 5 ∧ t.apu.tri.delay = 4 := by decide
theorem test_V_APU_5 :
    let t := memWrite 0x4015 0x10 (memWrite 0x4013 0x02 (memWrite 0x4012 0x01 base)); t.apu.dmc.addr = 0xC040 ∧ t.apu.dmc.remaining = 33 := by decide
theorem test_V_APU_6 :
    let t := dmcFetch { base with apu := { base.apu with dmc := { base.apu.dmc with addr := 0xFFFF, remaining := 2 } } }
    t.apu.dmc.addr = 0x8000 ∧ t.apu.dmc.remaining = 1 ∧ t.run.burn = 1 := by decide

/-- A machine with mapper `m` and `n` PRG banks after the mapper's init. -/
def mapped (m n : Nat) : State := mapperReset { base with cart := { base.cart with mapper := m, prgBanks := n } }

/-- The PRG offsets of the CPU pages from $8000 on. -/
def prgOffsets (s : State) : List Nat :=
  (s.pages.toList.drop 8).map (fun p => match p with | .mapped .prg b => b | .mapped .ram _ => 1 | .mapped .sram _ => 1 | .dead => 1)

theorem test_W1 : prgOffsets (mapped 1 2) = [0, 0x1000, 0x2000, 0x3000, 0x4000, 0x5000, 0x6000, 0x7000] := by decide
theorem test_W5_mapper4 : prgOffsets (mapped 4 8) = [0, 0x1000, 0x2000, 0x3000, 0x1C000, 0x1D000, 0x1E000, 0x1F000] := by decide
set_option maxRecDepth 4000 in
/-- The fifth of V-MAP-1's serial writes: the first four have shifted in 1, 0, 1, 0. -/
theorem test_V_MAP_1 :
    let s := mapped 1 8
    let t := memWrite 0xE000 0 { s with mmc1 := { s.mmc1 with shift := 5, bitcount := 4, reg0 := 0x0C } }
    t.mmc1.reg3 = 5 ∧ t.pages.get 8 = .mapped .prg 0x14000 ∧ t.pages.get 12 = .mapped .prg 0x1C000 := by decide
/-- V-MAP-7 from V-MAP-6's bank register 6. -/
theorem test_V_MAP_7 :
    let s := mapped 4 8
    let t := memWrite 0x8000 0x46 { s with mmc3 := { s.mmc3 with bank := s.mmc3.bank.set 6 4 } }
    prgOffsets t = [0x1C000, 0x1D000, 0x2000, 0x3000, 0x8000, 0x9000, 0x1E000, 0x1F000] := by decide
theorem test_V_MAP_9 : (memWrite 0xC003 0 (memWrite 0xC000 5 (mapped 4 8))).mmc3.irqCounter = 5 := by decide
theorem test_V_FRM_4 :
    let t := memWrite 0x4017 0x40 { base with fiq := ⟨5, 0, true, false⟩ }; t.fiq.state = 0x40 ∧ !t.fiq.occurred := by decide

/-- R560, in a run from reset: the slice with a $4017 write counts, at 114 cycles, and the next slice too. Under `atSliceEnd` a whole period
is left (R612 read to the cycle). -/
theorem test_fiq_after_4017_write :
    let t := { memWrite 0x4017 0x00 base with run := { base.run with cycles := 114 } }
    let u := settleSlice 0 t
    u.fiq = ⟨29715, 0, false, false⟩ ∧
    (settleSlice 0 { u with run := { u.run with cycles := 114 } }).fiq = ⟨29601, 0, false, false⟩ ∧
    (settleSlice 0 { t with fiqRestart := .atSliceEnd }).fiq = ⟨29829, 0, false, false⟩ := by decide
theorem test_V_FRM_8 :
    (imageCart [0x4E, 0x45, 0x53, 0x1A, 1, 0, 0x40, 0x10, 1]).mapper = 4 ∧
    (imageCart [0x4E, 0x45, 0x53, 0x1A, 1, 0, 0x40, 0x10, 0]).mapper = 0x14 := by decide
theorem test_V_RST_2 :
    let t := softReset { withA 0x12 (withRam [(0x10, 0xAA)] base) with run := { base.run with cycles := 12345, intPending := true } }
    t.run.cycles = 12345 ∧ t.mem.ram = [(0x10, 0xAA)] ∧ t.cpu.a = 0x12 ∧ t.cpu.f.i ∧ !t.run.intPending ∧ t.orch.scanline = 241 := by decide

/-! ### The first step after reset -/

theorem test_first_step : (ran (step (State.reset.withFetchWord 16 0x42A9))).cpu.a = 0x42 := by decide
theorem test_first_step_opcode_only : (ran (step (State.reset.withFetchWord 8 0xE8))).cpu.x = 1 := by decide

/-! ### Witnesses: values that meet the hypotheses of each obligation -/

theorem witness_BytesDecodedAreTheEncoding :
    decode [0xA9, 0x44] = .ok (.ldaImm 0x44, []) ∧ Instr.ldaImm 0x44 ≠ .brk ∧ decode [0x00, 0xEA, 0x01] = .ok (.brk, [0x01]) :=
  ⟨rfl, by decide, rfl⟩

theorem witness_EveryOpcodeDecodes : (0x02 : Byte) ∈ jamOpcodes ∧ (0xF2 : Byte) ∈ jamOpcodes := by decide

/-- `base` with an instruction at pc: `LDA $12`, `INX` or `JMP $9012`. -/
def fetching (bytes : List Byte) : State := withPrg 0 bytes base

theorem witness_StepRunsTheDecodedInstruction :
    (fetching [0xA5, 0x12, 0x34]).orch.phase = .slice .line 0 ∧ sliceRunning (fetching [0xA5, 0x12, 0x34]) = true ∧
    (fetching [0xA5, 0x12, 0x34]).run.jammed = false ∧
    peek 0x8000 (fetching [0xA5, 0x12, 0x34]) = some 0xA5 ∧ peek 0x8001 (fetching [0xA5, 0x12, 0x34]) = some 0x12 ∧
    peek 0x8002 (fetching [0xA5, 0x12, 0x34]) = some 0x34 ∧
    ¬ ((fetching [0xA5, 0x12, 0x34]).undocPolicy = .refuse ∧ (0xA5 : Byte) ∈ undocumentedOpcodes) := by decide

theorem witness_StepRunsTheDecodedInstruction_decode : decode [0xA5, 0x12, 0x34] = .ok (.ldaZp 0x12, [0x34]) := rfl

theorem witness_FetchReadsTheBus :
    (fetching [0xE8]).orch.phase = .slice .line 0 ∧ sliceRunning (fetching [0xE8]) = true ∧
    (fetching [0xE8]).run.jammed = false ∧
    ¬ ((fetching [0xE8]).undocPolicy = .refuse ∧ (memRead 0x8000 (fetching [0xE8])).1 ∈ undocumentedOpcodes) ∧
    operandCount (memRead 0x8000 (fetching [0xE8])).1 = 0 ∧ operandCount (memRead 0x8000 (fetching [0xA5])).1 = 1 ∧
    operandCount (memRead 0x8000 (fetching [0x4C])).1 = 2 := by decide

theorem witness_OnlyCallsWithoutACartridgeStop :
    CallRuns (fun c => ∀ i b, c ≠ .insert i b)
      { base with orch := { base.orch with phase := .idle }, host := { base.host with calls := [.softReset] }, cart := Cart.absent } :=
  ⟨rfl, _, _, rfl, fun _ _ => nofun⟩

theorem witness_RefusalStopsTheCpu :
    (withPolicy .refuse (fetching [0x1A])).orch.phase = .slice .line 0 ∧ sliceRunning (withPolicy .refuse (fetching [0x1A])) = true ∧
    (withPolicy .refuse (fetching [0x1A])).run.jammed = false ∧ (withPolicy .refuse (fetching [0x1A])).undocPolicy = .refuse ∧
    (memRead 0x8000 (withPolicy .refuse (fetching [0x1A]))).1 ∈ undocumentedOpcodes ∧
    ({ base with run := { base.run with refused := true } }).run.refused = true := by decide

theorem witness_JamHaltsTheCpu :
    Instr.jam02.form = (.JAM, .imp) ∧ (fetching [0xF2]).orch.phase = .slice .line 0 ∧ sliceRunning (fetching [0xF2]) = true ∧
    (memRead 0x8000 (fetching [0xF2])).1 ∈ jamOpcodes ∧
    sliceRunning { base with run := ⟨0, 50, 0, false, true, false⟩ } = true := by decide

/-- `base` jammed, at the end of its slice. -/
def jammedBase : State := { base with run := { base.run with jammed := true, remaining := 0 } }

theorem witness_OnlyResetEndsAJam : jammedBase.run.jammed = true ∧ step jammedBase = .next (endSlice .line 0 jammedBase) := ⟨rfl, rfl⟩

theorem witness_CyclesNeverDecrease : step jammedBase = .next (endSlice .line 0 jammedBase) := rfl

theorem witness_StepKeepsCanonicalMemory : base.memWf = true ∧ step (fetching [0xE8]) = exec .inx (setPc 0x8001 (fetching [0xE8])) :=
  ⟨by decide, rfl⟩

theorem base_allMapped : AllMapped base :=
  ⟨fun _ => ⟨by decide,
      fun i h => by
        have : (i.val - 8) < 8 := by omega
        exact ⟨4096 * ((i.val - 8) % 4), by revert h; revert i; decide⟩,
      fun i h => ⟨1024 * i.val, by revert h; revert i; decide⟩,
      by decide, by decide⟩,
    fun _ h => nomatch h⟩

theorem witness_StepKeepsTheMapping : AllMapped base ∧ step jammedBase = .next (endSlice .line 0 jammedBase) := ⟨base_allMapped, rfl⟩

/-- One form of each mnemonic that the statements about a form name. -/
theorem witness_forms :
    List.map Instr.form
      [.ldaImm 1, .ldxAbs 1 2, .ldyZpx 1, .staIzy 1, .stxZpy 1, .styZp 1, .tax, .tay, .txa, .tya, .tsx, .txs, .inx, .iny, .dex,
       .dey, .adcAbsx 1 2, .sbcImmEB 1, .andZp 1, .oraIzx 1, .eorAbsy 1 2, .cmpZp 1, .cpxImm 1, .cpyZp 1, .bitAbs 1 2, .incZp 1,
       .decZp 1, .aslZp 1, .aslAcc, .lsrZp 1, .lsrAcc, .rolZp 1, .rolAcc, .rorZp 1, .rorAcc] =
      [(.LDA, .imm 1), (.LDX, .abs 1 2), (.LDY, .zpx 1), (.STA, .izy 1), (.STX, .zpy 1), (.STY, .zp 1), (.TAX, .imp),
       (.TAY, .imp), (.TXA, .imp), (.TYA, .imp), (.TSX, .imp), (.TXS, .imp), (.INX, .imp), (.INY, .imp), (.DEX, .imp),
       (.DEY, .imp), (.ADC, .absx 1 2), (.SBC, .imm 1), (.AND, .zp 1), (.ORA, .izx 1), (.EOR, .absy 1 2), (.CMP, .zp 1),
       (.CPX, .imm 1), (.CPY, .zp 1), (.BIT, .abs 1 2), (.INC, .zp 1), (.DEC, .zp 1), (.ASL, .zp 1), (.ASL, .acc), (.LSR, .zp 1),
       (.LSR, .acc), (.ROL, .zp 1), (.ROL, .acc), (.ROR, .zp 1), (.ROR, .acc)] := by
  rfl

theorem witness_forms_control_and_stack :
    List.map Instr.form
      [.bpl 0x7F, .bmi 0x80, .bvc 0, .bvs 0xFF, .bcc 1, .bcs 1, .bne 1, .beq 1, .jmpAbs 1 2, .jmpInd 0xFF 2, .jsrAbs 1 2, .rts,
       .brk, .rti, .pha, .php, .pla, .plp, .clc, .sec, .cli, .sei, .cld, .sed, .clv, .nop, .nopImm80 1, .nopAbs 1 2] =
      [(.BPL, .rel 0x7F), (.BMI, .rel 0x80), (.BVC, .rel 0), (.BVS, .rel 0xFF), (.BCC, .rel 1), (.BCS, .rel 1), (.BNE, .rel 1),
       (.BEQ, .rel 1), (.JMP, .abs 1 2), (.JMP, .ind 0xFF 2), (.JSR, .abs 1 2), (.RTS, .imp), (.BRK, .brk), (.RTI, .imp),
       (.PHA, .imp), (.PHP, .imp), (.PLA, .imp), (.PLP, .imp), (.CLC, .imp), (.SEC, .imp), (.CLI, .imp), (.SEI, .imp),
       (.CLD, .imp), (.SED, .imp), (.CLV, .imp), (.NOP, .imp), (.NOP, .imm 1), (.NOP, .abs 1 2)] := by
  rfl

theorem witness_forms_undocumented :
    List.map Instr.form
      [.sloZp 1, .rlaZp 1, .sreZp 1, .rraZp 1, .dcpZp 1, .isbZp 1, .saxZp 1, .laxZp 1, .lasAbsy 1 2, .ancImm0B 1, .alrImm 1,
       .arrImm 1, .axsImm 1, .aneImm 1, .lxaImm 1, .shaIzy 1, .shxAbsy 1 2, .shyAbsx 1 2, .tasAbsy 1 2] =
      [(.SLO, .zp 1), (.RLA, .zp 1), (.SRE, .zp 1), (.RRA, .zp 1), (.DCP, .zp 1), (.ISB, .zp 1), (.SAX, .zp 1), (.LAX, .zp 1),
       (.LAS, .absy 1 2), (.ANC, .imm 1), (.ALR, .imm 1), (.ARR, .imm 1), (.AXS, .imm 1), (.ANE, .imm 1), (.LXA, .imm 1),
       (.SHA, .izy 1), (.SHX, .absy 1 2), (.SHY, .absx 1 2), (.TAS, .absy 1 2)] := by
  rfl

/-- The clauses of a store: plain memory at both ends of RAM and SRAM, and addresses that are not plain. -/
theorem witness_stores :
    plainStore 0x0000 base = true ∧ plainStore 0x1FFF base = true ∧ plainStore 0x6000 base = true ∧ plainStore 0x7FFF base = true ∧
    plainStore 0x2000 base = false ∧ plainStore 0x4017 base = false ∧ plainStore 0x8000 base = false ∧ base.mem.wf = true ∧
    locate 0x0000 base ≠ locate 0x0001 base ∧ Operand.zp 1 ≠ .acc := by decide

theorem witness_EffectiveAddressesAndLoads : (∀ v, Operand.izy 1 ≠ .imm v) ∧ Operand.izy 1 ≠ .acc := ⟨fun _ => nofun, nofun⟩

/-- `base` with RAM shown at $5000 too. -/
def ramPage : State := { base with pages := base.pages.set 5 (.mapped .ram 0) }

theorem witness_BusReads_BusWrites :
    (0x1FFF : Addr).toNat < 0x2000 ∧ 0x4018 ≤ (0x4018 : Addr).toNat ∧ 0x4018 ≤ (0xFFFF : Addr).toNat ∧
    ramPage.pages.get (pageOf 0x5000) = .mapped .ram 0 ∧ base.pages.get (pageOf 0x6000) = .mapped .sram 0 ∧
    base.pages.get (pageOf 0x7FFF) = .mapped .sram 4096 ∧ base.pages.get (pageOf 0xFFFF) = .mapped .prg 12288 ∧
    base.pages.get (pageOf 0x4018) = .dead ∧ base.cart.mapper ≠ 1 ∧ base.cart.mapper ≠ 4 := by decide

theorem witness_CallAndReturn_frames :
    locate 0x0000 base ≠ .ram (stackCell base.cpu.sp) ∧ locate 0x0000 base ≠ .ram (stackCell (base.cpu.sp - 1)) ∧
    locate 0x0000 base ≠ .ram (stackCell (base.cpu.sp - 2)) := by decide

theorem witness_InterruptEntry :
    base.run.refused = false ∧ base.run.jammed = false ∧ base.cpu.f.i = false ∧ (withI base).cpu.f.i = true ∧ jammedBase.run.jammed = true := by
  decide

/-- `base` with an IRQ pending and two cycles of burn owed. -/
def pendingBase : State := { base with run := { base.run with intPending := true, burn := 2 } }

theorem witness_SliceEntry :
    pendingBase.run.refused = false ∧
    (pendingBase.run.intPending = true ∧ pendingBase.cpu.f.i = false ∧ pendingBase.run.jammed = false ∧
      ((min pendingBase.run.burn (3 : Int).toNat : Nat) : Int) < 3) ∧
    ¬ (pendingBase.run.intPending = true ∧ pendingBase.cpu.f.i = false ∧ pendingBase.run.jammed = false ∧
      ((min pendingBase.run.burn (2 : Int).toNat : Nat) : Int) < 2) := by decide

theorem witness_StatusRead : (0x3FFA : Addr).toNat % 8 = 2 ∧ 0x2000 ≤ (0x2002 : Addr).toNat ∧ (0x3FFA : Addr).toNat < 0x4000 := by decide

theorem witness_PpuRegisterWrites :
    (0x2000 : Addr).toNat % 8 = 0 ∧ (0x3FF9 : Addr).toNat % 8 = 1 ∧ (0x2002 : Addr).toNat % 8 = 2 ∧ (0x3FFB : Addr).toNat % 8 = 3 ∧
    (0x2004 : Addr).toNat % 8 = 4 ∧ (0x3FFD : Addr).toNat % 8 = 5 ∧ (0x2006 : Addr).toNat % 8 = 6 ∧ (0x3FFE : Addr).toNat < 0x4000 ∧
    base.ppu.w = false ∧ ({ base.ppu with w := true }).w = true := by decide

/-- R411: the write-only registers, at the ends of the range of the mirrors. -/
theorem witness_PpuRegisterWrites_reads :
    (0x2000 : Addr).toNat % 8 = 0 ∧ (0x3FFE : Addr).toNat % 8 = 6 ∧ (0x3FFD : Addr).toNat % 8 = 5 ∧ (0x2003 : Addr).toNat % 8 = 3 ∧
    (0x2009 : Addr).toNat % 8 = 1 := by decide

/-- R423: a $2005 write and then a $2006 write is a second write, and loads v, bit 14 of t included. -/
theorem test_shared_flip_flop :
    let s := memWrite 0x2006 0xCD (memWrite 0x2005 0xFF { base with ppu := { base.ppu with t := 0x4000 } })
    s.ppu.v = 0x40CD ∧ s.ppu.t = 0x40CD ∧ s.ppu.w = false ∧ s.ppu.fineX = 7 := by decide

/-- R423, the other order: by hand, $2006 <- $3F and then $2005 <- $41. -/
theorem test_shared_flip_flop_scroll :
    let s := memWrite 0x2005 0x41 (memWrite 0x2006 0x3F base)
    s.ppu.t = 0x1D00 ∧ s.ppu.v = base.ppu.v ∧ s.ppu.w = false := by decide

/-- `base` with `v` set. -/
def withV (v : BitVec 15) : State := { base with ppu := { base.ppu with v := v } }

theorem witness_VramDataPort :
    (0x3FFF : Addr).toNat % 8 = 7 ∧ (BitVec.ofNat 14 (withV 0x3EFF).ppu.v.toNat).toNat < 0x3F00 ∧
    0x3F00 ≤ (BitVec.ofNat 14 (withV 0x7F00).ppu.v.toNat).toNat ∧ base.mem.wf = true ∧
    (base.ppu.pages.get (ppuPageOf 0x2000)).region = .nt ∧ base.cart.chrBanks = 0 ∧
    (base.ppu.pages.get (ppuPageOf 0x1FFF)).region = .chr ∧ ({ base.cart with chrBanks := 1 }).chrBanks ≠ 0 ∧
    PpuCell.pal 0 ≠ ppuCell 0x3F1F base ∧ ppuCell 0x3F1C base = .pal 12 ∧ PpuCell.nt 0 ≠ ppuCell 0x3EFF base ∧
    PpuCell.chr 0 ≠ ppuCell 0x1FFF base := by decide

theorem witness_OamDma : base.mem.wf = true ∧ base.run.refused = false ∧ ∀ k : Byte, peek ((0x60 : Byte) ++ k) base = some 0 :=
  ⟨by decide, rfl, fun k => by
    have hk := k.isLt
    have h : ((0x60 : Byte) ++ k : Addr).toNat = 0x6000 + k.toNat := Sys2Proof.Machine.mkAddr_toNat 0x60 k
    have hp : pageOf ((0x60 : Byte) ++ k) = 6 := by apply Fin.ext; show _ / 4096 = 6; omega
    unfold peek locate
    rw [if_neg (by omega), if_neg (by omega)]
    unfold pageLoc
    rw [hp]
    rfl⟩

/-- `base` with background and sprites on, sprite 0 at column `x` of line 1, and one opaque column in tile 0. -/
def striking (x : Byte) (column : Byte) : State :=
  { base with
    ppu := { base.ppu with ctrl1 := 0x1E }
    mem := { base.mem with oam := [(3, x)], chr := [(0, column)] } }

theorem witness_ScanlineStates :
    rendering base = false ∧ rendering (striking 1 0x80) = true ∧ ¬ (240 < 240 ∧ rendering (striking 1 0x80) = true) ∧ 239 < 240 := by decide

theorem witness_StrikeAndOverflow :
    rendering (striking 8 0x80) = true ∧ (striking 8 0x80).ppu.strikeFlag = false ∧ overlap (striking 8 0x80) 1 8 = true ∧
    ({ striking 8 0x80 with ppu := { (striking 8 0x80).ppu with strikeFlag := true } }).ppu.strikeFlag = true := by decide

theorem witness_StrikeAndOverflow_first : ∀ x', x' < 8 → overlap (striking 8 0x80) 1 x' = false := by decide

theorem witness_StrikeAndOverflow_none : ∀ x, x < 255 → overlap { base with ppu := { base.ppu with ctrl1 := 0x08 } } 1 x = false := by
  intro x _
  simp [overlap, spriteShows]

theorem witness_DrawFlagOnlyDraws :
    0 < 240 ∧ 239 < 240 ∧ 240 ≤ 240 ∧ rendering (striking 8 0x80) = true ∧ rendering base = false ∧ (1 : Nat) ≠ 0 := by decide

/-- R430, R434, R441, by hand: an opaque sprite column over an opaque background, the background alone, the backdrop. -/
theorem test_pixel_of_sprite_over_background :
    let s := { striking 8 0x80 with mem := { (striking 8 0x80).mem with pal := [(1, 0x11), (17, 0x2A)] } }
    composedPixel s 1 8 = 0x6A ∧ composedPixel s 1 16 = 0x11 ∧ composedPixel s 1 9 = 0x80 := by decide

theorem witness_FineYStep :
    (0x6000 : BitVec 15).extractLsb' 12 3 ≠ 7 ∧ (0x73A0 : BitVec 15).extractLsb' 12 3 = 7 ∧ (0x73A0 : BitVec 15).extractLsb' 5 5 = 29 ∧
    (0x73E0 : BitVec 15).extractLsb' 5 5 = 31 ∧ (0x73C0 : BitVec 15).extractLsb' 12 3 = 7 ∧ (0x73C0 : BitVec 15).extractLsb' 5 5 ≠ 29 ∧
    (0x73C0 : BitVec 15).extractLsb' 5 5 ≠ 31 := by decide

/-- `base` with a DMC at $C000 that has `n` bytes left. -/
def dmcBase (reg0 : Byte) (n : Nat) : State :=
  { base with apu := { base.apu with dmc := { base.apu.dmc with addr := 0xC000, remaining := n, reg0 := reg0 } } }

theorem witness_DmcFetch :
    (dmcBase 0 2).run.refused = false ∧ peek (dmcBase 0 2).apu.dmc.addr (dmcBase 0 2) = some 0 ∧ 0 < (dmcBase 0 1).apu.dmc.remaining ∧
    (dmcBase 0 2).apu.dmc.remaining ≠ 1 ∧ (dmcBase 0xC0 1).apu.dmc.reg0.getLsbD 6 = true ∧ (dmcBase 0x80 1).apu.dmc.reg0.getLsbD 6 = false ∧
    (dmcBase 0x80 1).apu.dmc.reg0.getLsbD 7 = true ∧ (dmcBase 0 1).apu.dmc.reg0.getLsbD 7 = false := by decide

theorem witness_MixCall :
    base.apu.enable.getLsbD 4 = false ∧ (dmcBase 0 0).apu.dmc.remaining = 0 ∧ base.apu.tri.reg0.getLsbD 7 = false ∧ 0 ≤ base.apu.tri.delay ∧
    4 ≤ ({ base.apu.tri with delay := 4 }).delay := by decide

/-- R469: rate index 15 is 54 CPU cycles a bit, noise index 15 is 4068, and a rectangle's timer counts in 2 cycles. -/
theorem test_periods :
    ({ base.apu.dmc with reg0 := 0x0F }).rate = 54 ∧ ({ base.apu.dmc with reg0 := 0x40 }).rate = 428 ∧
    channelPeriod { base.apu with noise := ⟨0, 0x0F, 0, 0⟩ } .noise = 4068 ∧
    channelPeriod { base.apu with rect0 := ⟨0, 0, 0xFF, 0x0F, 0⟩ } .rect0 = 4094 := by decide

theorem witness_BankPrimitives :
    0x8000 ≤ 1024 * 4 * 8 ∧ 1024 * 4 * (15 + 1) ≤ 0x10000 ∧ 1024 * 32 * (1 + 1) ≤ 0x10000 ∧ 1024 * 1 * (7 + 1) ≤ 0x2000 ∧
    1024 * 8 * (0 + 1) ≤ 0x2000 := by decide

theorem witness_Mmc1SerialPort :
    (mapped 1 2).cart.mapper = 1 ∧ 1 ≤ (mapped 1 2).cart.prgBanks ∧ 0x8000 ≤ (0x8000 : Addr).toNat ∧ (0x80 : Byte).getLsbD 7 = true ∧
    (0x7F : Byte).getLsbD 7 = false ∧ 8 ≤ (15 : Fin 16).val ∧ (7 : Fin 16).val < 8 ∧ (mapped 1 2).mmc1.bitcount ≠ 4 ∧ ({ (mapped 1 2).mmc1 with bitcount := 4 }).bitcount = 4 := by decide

theorem witness_Mmc3Interrupt :
    (mapped 4 2).cart.mapper = 4 ∧ (mapped 4 2).orch.inVblank = false ∧ rendering (striking 1 0) = true ∧ rendering base = false ∧
    (mapped 4 2).mmc3.irqCounter = ((0 : Nat) : Int) ∧ ({ (mapped 4 2).mmc3 with irqEnabled := true }).irqEnabled = true ∧
    (0xC000 : Addr).toNat % 2 = 0 ∧ (0xDFFF : Addr).toNat % 2 = 1 ∧ (0xDFFF : Addr).toNat < 0xE000 ∧ (0xE000 : Addr).toNat % 2 = 0 ∧
    (0xFFFF : Addr).toNat % 2 = 1 ∧ (0xA001 : Addr).toNat % 2 = 1 ∧ (0xBFFF : Addr).toNat < 0xC000 ∧ (0x8000 : Addr).toNat % 2 = 0 ∧
    (0x9FFF : Addr).toNat % 2 = 1 ∧ (0x9FFF : Addr).toNat < 0xA000 ∧ (0xA000 : Addr).toNat % 2 = 0 ∧ (mapped 4 2).cart.fourScreen = false ∧
    ({ (mapped 4 2).cart with fourScreen := true }).fourScreen = true := by decide

theorem witness_FrameInterrupt :
    (0 : Int) < (⟨5, 0, false, false⟩ : Fiq).cycles - (4 : Nat) ∧ (⟨5, 0x80, false, false⟩ : Fiq).cycles - (5 : Nat) ≤ 0 ∧
    (⟨5, 0x80, false, false⟩ : Fiq).state.getLsbD 7 = true ∧ (⟨5, 0x40, false, false⟩ : Fiq).state.getLsbD 6 = true ∧
    (⟨5, 0, false, false⟩ : Fiq).state.getLsbD 7 = false ∧ (⟨5, 0, false, false⟩ : Fiq).state.getLsbD 6 = false ∧
    base.fiq.restarted = false ∧ (memWrite 0x4017 0 base).fiq.restarted = true ∧ ({ base with fiqRestart := .atSliceEnd }).fiqRestart = .atSliceEnd ∧ ({ base with fiqRestart := .atWrite }).fiqRestart = .atWrite ∧ 114 < 29829 := by
  decide

theorem witness_Joypads : base.pads.index0 < 8 ∧ (⟨7, 8⟩ : Pads).index0 < 8 ∧ 8 ≤ (⟨7, 8⟩ : Pads).index1 := by decide

theorem witness_FrameLoop :
    ({ base with orch := { base.orch with phase := .lineStart, scanline := 262 } }).orch.phase = .lineStart ∧
    ({ base with orch := { base.orch with phase := .lineStart, scanline := 241 } }).orch.scanline = 241 ∧ base.orch.scanline ≠ 241 ∧
    base.orch.scanline ≠ 262 ∧ jammedBase.orch.phase = .slice .line 0 ∧ sliceRunning jammedBase = false := by decide

theorem witness_FrameLoop_call :
    ({ base with host := { base.host with calls := [.renderframe true] } }).host.calls = .renderframe true :: [] ∧
    ({ base with orch := { base.orch with phase := .idle } }).orch.phase = .idle ∧ base.cart.attached = true := ⟨rfl, rfl, rfl⟩

/-- `base` between frames, with one call of the host pending. -/
def calling (c : HostCall) : State :=
  { base with orch := { base.orch with phase := .idle }, host := { base.host with calls := [c] } }

theorem witness_FrameLoop_calls (c : HostCall) :
    (calling c).orch.phase = .idle ∧ (calling c).host.calls = c :: [] ∧ (calling c).cart.attached = true := ⟨rfl, rfl, rfl⟩

/-- With no call pending, a cartridge attached or not. -/
theorem witness_FrameLoop_no_call :
    State.reset.orch.phase = .idle ∧ State.reset.host.calls = [] ∧ State.reset.cart.attached = true ∧ Cart.absent.attached = false :=
  ⟨rfl, rfl, rfl, rfl⟩

/-- R581: an eject leaves no cartridge, and no page of SRAM or PRG-ROM. -/
theorem test_eject :
    (ejectCartridge base).cart.attached = false ∧ (ejectCartridge base).pages.get 6 = .dead ∧ (ejectCartridge base).pages.get 15 = .dead ∧
    (ejectCartridge base).pages.get 1 ≠ .dead := by decide

/-- R579, R75: a state saved under the attached image is loaded; one of another header moves nothing but the status. -/
theorem test_load :
    (loadSnapshot (takeSnapshot (setA 0x42 base)) base).cpu.a = 0x42 ∧
    (loadSnapshot (takeSnapshot (setA 0x42 { base with cart := { base.cart with chrBanks := 1 } })) base).cpu.a = base.cpu.a ∧
    (loadSnapshot (takeSnapshot (setA 0x42 { base with cart := { base.cart with chrBanks := 1 } })) base).cart.chrBanks = 0 := by decide

/-- A state of the attached image, states of another header, other PRG and other CHR-ROM, and a cartridge with CHR-ROM. -/
theorem witness_SaveAndLoad :
    let rom : State := { base with cart := { base.cart with chrBanks := 1 } }
    let same (s u : State) := s.cart = u.cart ∧ s.mem.prg = u.mem.prg ∧ (u.cart.chrBanks = 0 ∨ s.mem.chr = u.mem.chr)
    same (setA 1 base) base ∧ same { base with mem := { base.mem with chr := [(0, 1)] } } base ∧ same (setA 1 rom) rom ∧
    ¬ same rom base ∧ ¬ same { base with mem := { base.mem with prg := [(0, 1)] } } base ∧
    ¬ same { rom with mem := { rom.mem with chr := [(0, 1)] } } rom ∧ rom.cart.chrBanks ≠ 0 := by decide

theorem witness_ApuEnableAndStatus :
    0x4000 ≤ (0x4000 : Addr).toNat ∧ (0x4000 : Addr).toNat < 0x4015 ∧ (0x4014 : Addr).toNat < 0x4015 ∧ ¬ (0x4015 : Addr).toNat < 0x4015 := by
  decide

theorem witness_SoftAndHardReset :
    base.run.refused = false ∧ peek 0xFFFC (softReset base) = some 0 ∧ peek 0xFFFD (softReset base) = some 0 ∧ base.cart.attached = true ∧
    1 ≤ base.cart.prgBanks ∧ ({ base.cart with chrBanks := 1 }).chrBanks ≠ 0 ∧ ({ base.run with refused := true }).refused = true := by decide

/-- `base` with a cartridge of `n` PRG banks and mapper `m`. -/
def withCart (m n : Nat) : State := { base with cart := { base.cart with mapper := m, prgBanks := n } }

/-- R516 (Scenario 1): a 2-bank MMC1 cartridge shows its last bank at $C000 after a reset. -/
theorem witness_SoftAndHardReset_mmc1 :
    (withCart 1 2).cart.mapper = 1 ∧ (withCart 1 2).cart.prgBanks = 2 ∧
    (softReset (withCart 1 2)).pages.get 12 = .mapped .prg 16384 ∧ (softReset (withCart 1 2)).pages.get 8 = .mapped .prg 0 := by decide

/-- R520: banks 0, 1, n8 - 2 and n8 - 1 of a 4-bank MMC3 cartridge after a reset. -/
theorem test_reset_mapping_mmc3 :
    let s := softReset (withCart 4 4)
    s.pages.get 8 = .mapped .prg 0 ∧ s.pages.get 10 = .mapped .prg 8192 ∧ s.pages.get 12 = .mapped .prg 49152 ∧
    s.pages.get 15 = .mapped .prg 61440 := by decide

/-- R520: the CHR pages of banks 0 and 1 after a reset. -/
theorem test_reset_mapping_mmc3_chr :
    let s := softReset (withCart 4 4)
    s.ppu.pages.get 2 = ⟨.chr, 0⟩ ∧ s.ppu.pages.get 3 = ⟨.chr, 1024⟩ ∧ s.ppu.pages.get 5 = ⟨.chr, 0⟩ := ⟨rfl, rfl, rfl⟩

/-- R511: NROM's last bank at $C000 after a reset. -/
theorem test_reset_mapping_nrom : (softReset (withCart 0 2)).pages.get 12 = .mapped .prg 16384 := by decide

/-- R595: a refused CPU keeps its registers through a soft reset, and the rest of the machine is reset. -/
theorem test_soft_reset_while_refused :
    let s := { base with run := { base.run with refused := true, cycles := 7 }, ppu := { base.ppu with ctrl0 := 0x80 } }
    (softReset s).run = s.run ∧ (softReset s).cpu = s.cpu ∧ (softReset s).ppu.ctrl0 = 0 ∧ (softReset s).orch.scanline = 241 := by decide

/-- An iNES image of one PRG bank with mapper number `m` below 16. -/
def image (m : Byte) : List Byte := ([0x4E, 0x45, 0x53, 0x1A, 1, 0, m <<< 4, 0] : List Byte) ++ (List.replicate 8 0 ++ List.replicate 16384 0)

theorem witness_FailedInsert :
    ([] : List Byte).take 4 ≠ [0x4E, 0x45, 0x53, 0x1A] ∧ ([0x4E, 0x45, 0x53, 0x1A] : List Byte).length < 16 ∧
    ([0x4E, 0x45, 0x53, 0x1A, 0] : List Byte).getD 4 0 = 0 ∧ ([0x4E, 0x45, 0x53, 0x1A, 1, 0, 0x20] : List Byte).getD 6 0 = 0x20 := by decide

theorem witness_FailedInsert_loads :
    (image 4).take 4 = [0x4E, 0x45, 0x53, 0x1A] ∧ (image 4).length = 16400 ∧ (image 4).getD 4 0 = 1 ∧ (image 4).getD 5 0 = 0 ∧
    (image 4).getD 6 0 = 0x40 ∧ (image 4).getD 7 0 = 0 ∧ (List.range 8).any (fun k => decide ((image 4).getD (8 + k) 0 ≠ 0)) = false :=
  ⟨rfl, by simp only [image, List.length_append, List.length_replicate, List.length_cons, List.length_nil], rfl, rfl, rfl, rfl, rfl⟩

end Sys2Proof.Tests
end

/-! SUPPORT. What a step can do to the memories, the cartridge, the page tables and the pending calls. Outside the host's insert, eject,
resets and load, a step is a chain of bus writes and of updates that touch none of these (`BusRun`), so that an invariant of them needs
only to be proved of one bus write. -/

namespace Sys2Proof.Machine

/-! ### Chains of bus writes -/

/-- The memories, the cartridge, both page tables and the pending calls of the host are the same. -/
structure SameStore (s t : State) : Prop where
  mem : t.mem = s.mem
  cart : t.cart = s.cart
  pages : t.pages = s.pages
  ppuPages : t.ppu.pages = s.ppu.pages
  calls : t.host.calls = s.host.calls

theorem SameStore.refl (s : State) : SameStore s s := ⟨rfl, rfl, rfl, rfl, rfl⟩

theorem SameStore.trans {s t u : State} (h : SameStore s t) (g : SameStore t u) : SameStore s u where
  mem := g.mem.trans h.mem
  cart := g.cart.trans h.cart
  pages := g.pages.trans h.pages
  ppuPages := g.ppuPages.trans h.ppuPages
  calls := g.calls.trans h.calls

/-- Reads leave the stores as they are (20_memory.md R139). -/
theorem ReadFrame.sameStore {s t : State} (h : ReadFrame s t) : SameStore s t where
  mem := h.mem
  cart := h.cart
  pages := h.pages
  ppuPages := by rw [h.ppu]
  calls := by rw [h.host]

/-- The states reached from `s` by bus writes and by updates that leave the stores as they are. -/
inductive BusRun (s : State) : State → Prop where
  | refl : BusRun s s
  | write {t : State} (h : BusRun s t) (a : Addr) (v : Byte) : BusRun s (memWrite a v t)
  | next {t u : State} (h : BusRun s t) (g : SameStore t u) : BusRun s u

theorem SameStore.busRun {s t : State} (h : SameStore s t) : BusRun s t := .next .refl h

theorem BusRun.trans {s t u : State} (h : BusRun s t) (g : BusRun t u) : BusRun s u := by
  induction g with
  | refl => exact h
  | write _ a v ih => exact ih.write a v
  | next _ g ih => exact ih.next g

/-- What a bus write keeps, and what depends on the stores alone, a chain keeps. -/
theorem BusRun.keeps {P : State → Prop} (same : ∀ s t, SameStore s t → P s → P t)
    (write : ∀ a v s, P s → P (memWrite a v s)) {s t : State} (h : BusRun s t) (hs : P s) : P t := by
  induction h with
  | refl => exact hs
  | write _ a v ih => exact write a v _ ih
  | next _ g ih => exact same _ _ g ih

/-! ### The shared operations -/

theorem memRead_busRun (a : Addr) (s : State) : BusRun s (memRead a s).2 := (memRead_frame a s).sameStore.busRun

theorem memWrite_busRun (a : Addr) (v : Byte) (s : State) : BusRun s (memWrite a v s) := BusRun.refl.write a v

theorem memRead16_busRun (a : Addr) (s : State) : BusRun s (memRead16 a s).2 := (memRead16_frame a s).sameStore.busRun

theorem addBurn_sameStore (k : Nat) (s : State) : SameStore s (addBurn k s) where
  mem := addBurn_mem k s
  cart := addBurn_cart k s
  pages := addBurn_pages k s
  ppuPages := by rw [addBurn_ppu]
  calls := by rw [addBurn_host]

theorem charge_sameStore (k : Nat) (s : State) : SameStore s (charge k s) := ⟨rfl, rfl, rfl, rfl, rfl⟩

theorem push_busRun (v : Byte) (s : State) : BusRun s (push v s) := (memWrite_busRun _ _ s).next ⟨rfl, rfl, rfl, rfl, rfl⟩

theorem push16_busRun (v : Addr) (s : State) : BusRun s (push16 v s) := (push_busRun _ s).trans (push_busRun _ _)

theorem pull_sameStore (s : State) : SameStore s (pull s).2 := by
  rw [pull_eq]
  exact ⟨rfl, rfl, rfl, rfl, rfl⟩

theorem pull16_sameStore (s : State) : SameStore s (pull16 s).2 := by
  rw [pull16_eq]
  exact ⟨rfl, rfl, rfl, rfl, rfl⟩

/-- An interrupt entry writes its frame of three bytes and reads its vector (60_exceptions.md R359). -/
theorem enterInterrupt_busRun (b : Bool) (vector : Addr) (s : State) : BusRun s (enterInterrupt b vector s) := by
  have hframe : BusRun s (push (s.cpu.f.pushed b) (push16 s.cpu.pc s)) := (push16_busRun _ s).trans (push_busRun _ _)
  have hflags := hframe.next (u := setFlags { (push (s.cpu.f.pushed b) (push16 s.cpu.pc s)).cpu.f with i := true }
    (push (s.cpu.f.pushed b) (push16 s.cpu.pc s))) ⟨rfl, rfl, rfl, rfl, rfl⟩
  exact (hflags.trans (memRead16_busRun vector _)).next ⟨rfl, rfl, rfl, rfl, rfl⟩

theorem returnFromInterrupt_sameStore (s : State) : SameStore s (returnFromInterrupt s) := by
  rw [returnFromInterrupt_eq]
  exact ⟨rfl, rfl, rfl, rfl, rfl⟩

theorem nmi_busRun (s : State) : BusRun s (nmi s) := by
  unfold nmi interrupt
  split
  · exact .refl
  · exact (enterInterrupt_busRun _ _ s).next (addBurn_sameStore _ _)

theorem irq_busRun (s : State) : BusRun s (irq s) := by
  unfold irq interrupt
  split
  · exact .refl
  · split
    · exact SameStore.busRun ⟨rfl, rfl, rfl, rfl, rfl⟩
    · exact (enterInterrupt_busRun _ _ s).next (addBurn_sameStore _ _)

/-! ### Instructions -/

/-- The outcome is a next state that a chain of bus writes reaches. -/
def EndsByBus (s : State) (r : Result) : Prop := ∃ t, r = .next t ∧ BusRun s t

/-- An instruction whose bus accesses lead to `t` ends in a state with the stores of `t`. -/
theorem BusRun.ends {s t u : State} (h : BusRun s t) (g : SameStore t u) : EndsByBus s (.next u) := ⟨u, rfl, h.next g⟩

theorem loadOperand_busRun (o : Operand) (s : State) : BusRun s (loadOperand o s).2 := (loadOperand_frame o s).sameStore.busRun

theorem rmwOperand_busRun (o : Operand) (f : Byte → Flags → Byte × Flags) (s : State) : BusRun s (rmwOperand o f s).2 := by
  by_cases ho : o = .acc
  · rw [ho]
    exact SameStore.busRun ⟨rfl, rfl, rfl, rfl, rfl⟩
  · rw [rmwOperand_mem ho]
    exact ((memRead_busRun _ s).write _ _).next ⟨rfl, rfl, rfl, rfl, rfl⟩

theorem arithInstr_endsByBus (op : Byte → Byte → Flags → Byte × Flags) (o : Operand) (n : Nat) (s : State) :
    EndsByBus s (arithInstr op o n s) :=
  (loadOperand_busRun o s).ends ⟨rfl, rfl, rfl, rfl, rfl⟩

theorem logicInstr_endsByBus (op : Byte → Byte → Byte) (o : Operand) (n : Nat) (s : State) : EndsByBus s (logicInstr op o n s) :=
  (loadOperand_busRun o s).ends ⟨rfl, rfl, rfl, rfl, rfl⟩

theorem compareInstr_endsByBus (reg : Byte) (o : Operand) (n : Nat) (s : State) : EndsByBus s (compareInstr reg o n s) :=
  (loadOperand_busRun o s).ends ⟨rfl, rfl, rfl, rfl, rfl⟩

theorem bit_endsByBus (o : Operand) (n : Nat) (s : State) : EndsByBus s (bit o n s) :=
  (loadOperand_busRun o s).ends ⟨rfl, rfl, rfl, rfl, rfl⟩

theorem lda_endsByBus (o : Operand) (n : Nat) (s : State) : EndsByBus s (lda o n s) :=
  (loadOperand_busRun o s).ends ⟨rfl, rfl, rfl, rfl, rfl⟩

theorem ldx_endsByBus (o : Operand) (n : Nat) (s : State) : EndsByBus s (ldx o n s) :=
  (loadOperand_busRun o s).ends ⟨rfl, rfl, rfl, rfl, rfl⟩

theorem ldy_endsByBus (o : Operand) (n : Nat) (s : State) : EndsByBus s (ldy o n s) :=
  (loadOperand_busRun o s).ends ⟨rfl, rfl, rfl, rfl, rfl⟩

theorem lax_endsByBus (o : Operand) (n : Nat) (s : State) : EndsByBus s (lax o n s) :=
  (loadOperand_busRun o s).ends ⟨rfl, rfl, rfl, rfl, rfl⟩

theorem las_endsByBus (o : Operand) (n : Nat) (s : State) : EndsByBus s (las o n s) :=
  (loadOperand_busRun o s).ends ⟨rfl, rfl, rfl, rfl, rfl⟩

theorem nopRead_endsByBus (o : Operand) (n : Nat) (s : State) : EndsByBus s (nopRead o n s) :=
  (loadOperand_busRun o s).ends ⟨rfl, rfl, rfl, rfl, rfl⟩

theorem slo_endsByBus (o : Operand) (n : Nat) (s : State) : EndsByBus s (slo o n s) :=
  (rmwOperand_busRun o _ s).ends ⟨rfl, rfl, rfl, rfl, rfl⟩

theorem rla_endsByBus (o : Operand) (n : Nat) (s : State) : EndsByBus s (rla o n s) :=
  (rmwOperand_busRun o _ s).ends ⟨rfl, rfl, rfl, rfl, rfl⟩

theorem sre_endsByBus (o : Operand) (n : Nat) (s : State) : EndsByBus s (sre o n s) :=
  (rmwOperand_busRun o _ s).ends ⟨rfl, rfl, rfl, rfl, rfl⟩

theorem rra_endsByBus (o : Operand) (n : Nat) (s : State) : EndsByBus s (rra o n s) :=
  (rmwOperand_busRun o _ s).ends ⟨rfl, rfl, rfl, rfl, rfl⟩

theorem dcp_endsByBus (o : Operand) (n : Nat) (s : State) : EndsByBus s (dcp o n s) :=
  (rmwOperand_busRun o _ s).ends ⟨rfl, rfl, rfl, rfl, rfl⟩

theorem isb_endsByBus (o : Operand) (n : Nat) (s : State) : EndsByBus s (isb o n s) :=
  (rmwOperand_busRun o _ s).ends ⟨rfl, rfl, rfl, rfl, rfl⟩

theorem rmwInstr_endsByBus (o : Operand) (n : Nat) (f : Byte → Flags → Byte × Flags) (s : State) :
    EndsByBus s (rmwInstr o n f s) := (rmwOperand_busRun o f s).ends ⟨rfl, rfl, rfl, rfl, rfl⟩

theorem storeInstr_endsByBus (o : Operand) (cost : Nat) (v : Byte) (s : State) : EndsByBus s (storeInstr o cost v s) := by
  rw [storeInstr_eq]
  exact (memWrite_busRun _ v s).ends ⟨rfl, rfl, rfl, rfl, rfl⟩

theorem unstableStore_endsByBus (o : Operand) (cost : Nat) (reg : Byte) (s : State) :
    EndsByBus s (unstableStore o cost reg s) := by
  unfold unstableStore
  dsimp only
  rw [effAddr_state]
  exact (memWrite_busRun _ _ s).ends ⟨rfl, rfl, rfl, rfl, rfl⟩

theorem tas_endsByBus (o : Operand) (cost : Nat) (s : State) : EndsByBus s (tas o cost s) := by
  obtain ⟨t, ht, hrun⟩ := unstableStore_endsByBus o cost (s.cpu.a &&& s.cpu.x) (setSp (s.cpu.a &&& s.cpu.x) s)
  have hsp : SameStore s (setSp (s.cpu.a &&& s.cpu.x) s) := ⟨rfl, rfl, rfl, rfl, rfl⟩
  exact ⟨t, ht, hsp.busRun.trans hrun⟩

theorem branchInstr_endsByBus (taken : Bool) (r : Byte) (s : State) : EndsByBus s (branchInstr taken r s) := by
  cases taken <;> exact BusRun.refl.ends ⟨rfl, rfl, rfl, rfl, rfl⟩

theorem jamCpu_sameStore (s : State) : SameStore s (jamCpu s) := ⟨rfl, rfl, rfl, rfl, rfl⟩

/-- Every instruction ends in a next state, and writes through the bus alone. The cases stand by the shape of the meaning. -/
theorem exec_endsByBus (i : Instr) (s : State) : EndsByBus s (exec i s) := by
  cases i with
  -- reading instructions
  | ldaIzx | ldaZp | ldaImm | ldaAbs | ldaIzy | ldaZpx | ldaAbsy | ldaAbsx => exact lda_endsByBus _ _ s
  | ldxImm | ldxZp | ldxAbs | ldxZpy | ldxAbsy => exact ldx_endsByBus _ _ s
  | ldyImm | ldyZp | ldyAbs | ldyZpx | ldyAbsx => exact ldy_endsByBus _ _ s
  | adcIzx | adcZp | adcImm | adcAbs | adcIzy | adcZpx | adcAbsy | adcAbsx => exact arithInstr_endsByBus adcOp _ _ s
  | sbcIzx | sbcZp | sbcImm | sbcImmEB | sbcAbs | sbcIzy | sbcZpx | sbcAbsy | sbcAbsx => exact arithInstr_endsByBus sbcOp _ _ s
  | andIzx | andZp | andImm | andAbs | andIzy | andZpx | andAbsy | andAbsx => exact logicInstr_endsByBus (· &&& ·) _ _ s
  | oraIzx | oraZp | oraImm | oraAbs | oraIzy | oraZpx | oraAbsy | oraAbsx => exact logicInstr_endsByBus (· ||| ·) _ _ s
  | eorIzx | eorZp | eorImm | eorAbs | eorIzy | eorZpx | eorAbsy | eorAbsx => exact logicInstr_endsByBus (· ^^^ ·) _ _ s
  | cmpIzx | cmpZp | cmpImm | cmpAbs | cmpIzy | cmpZpx | cmpAbsy | cmpAbsx => exact compareInstr_endsByBus s.cpu.a _ _ s
  | cpxImm | cpxZp | cpxAbs => exact compareInstr_endsByBus s.cpu.x _ _ s
  | cpyImm | cpyZp | cpyAbs => exact compareInstr_endsByBus s.cpu.y _ _ s
  | bitZp | bitAbs => exact bit_endsByBus _ _ s
  | laxIzx | laxZp | laxAbs | laxIzy | laxZpy | laxAbsy => exact lax_endsByBus _ _ s
  | lasAbsy => exact las_endsByBus _ _ s
  | nopZp04 | nopZp44 | nopZp64 | nopAbs | nopZpx14 | nopZpx34 | nopZpx54 | nopZpx74 | nopZpxD4 | nopZpxF4
  | nopAbsx1C | nopAbsx3C | nopAbsx5C | nopAbsx7C | nopAbsxDC | nopAbsxFC => exact nopRead_endsByBus _ _ s
  -- storing instructions
  | staIzx | staZp | staAbs | staIzy | staZpx | staAbsy | staAbsx | stxZp | stxAbs | stxZpy | styZp | styAbs | styZpx
  | saxIzx | saxZp | saxAbs | saxZpy => exact storeInstr_endsByBus _ _ _ s
  | shaIzy | shaAbsy | shxAbsy | shyAbsx => exact unstableStore_endsByBus _ _ _ s
  | tasAbsy => exact tas_endsByBus _ _ s
  -- read-modify-write instructions
  | aslZp | aslAcc | aslAbs | aslZpx | aslAbsx | lsrZp | lsrAcc | lsrAbs | lsrZpx | lsrAbsx
  | rolZp | rolAcc | rolAbs | rolZpx | rolAbsx | rorZp | rorAcc | rorAbs | rorZpx | rorAbsx
  | incZp | incAbs | incZpx | incAbsx | decZp | decAbs | decZpx | decAbsx => exact rmwInstr_endsByBus _ _ _ s
  | sloIzx | sloZp | sloAbs | sloIzy | sloZpx | sloAbsy | sloAbsx => exact slo_endsByBus _ _ s
  | rlaIzx | rlaZp | rlaAbs | rlaIzy | rlaZpx | rlaAbsy | rlaAbsx => exact rla_endsByBus _ _ s
  | sreIzx | sreZp | sreAbs | sreIzy | sreZpx | sreAbsy | sreAbsx => exact sre_endsByBus _ _ s
  | rraIzx | rraZp | rraAbs | rraIzy | rraZpx | rraAbsy | rraAbsx => exact rra_endsByBus _ _ s
  | dcpIzx | dcpZp | dcpAbs | dcpIzy | dcpZpx | dcpAbsy | dcpAbsx => exact dcp_endsByBus _ _ s
  | isbIzx | isbZp | isbAbs | isbIzy | isbZpx | isbAbsy | isbAbsx => exact isb_endsByBus _ _ s
  -- control transfer
  | bpl | bmi | bvc | bvs | bcc | bcs | bne | beq => exact branchInstr_endsByBus _ _ s
  | jmpInd l h =>
    have hread : BusRun s (indirectTarget l h s).2 := (memRead_busRun _ s).trans (memRead_busRun _ _)
    exact hread.ends ⟨rfl, rfl, rfl, rfl, rfl⟩
  | jsrAbs l h => exact (push16_busRun _ s).ends ⟨rfl, rfl, rfl, rfl, rfl⟩
  | rts => exact (pull16_sameStore s).busRun.ends ⟨rfl, rfl, rfl, rfl, rfl⟩
  | brk =>
    have hpc : SameStore s (setPc (s.cpu.pc + 1) s) := ⟨rfl, rfl, rfl, rfl, rfl⟩
    exact (hpc.busRun.trans (enterInterrupt_busRun true irqVector _)).ends ⟨rfl, rfl, rfl, rfl, rfl⟩
  | rti => exact (returnFromInterrupt_sameStore s).busRun.ends ⟨rfl, rfl, rfl, rfl, rfl⟩
  -- the stack
  | pha | php => exact (push_busRun _ s).ends ⟨rfl, rfl, rfl, rfl, rfl⟩
  | pla | plp => exact (pull_sameStore s).busRun.ends ⟨rfl, rfl, rfl, rfl, rfl⟩
  -- JAM, and the instructions on registers and flags alone
  | jam02 | jam12 | jam22 | jam32 | jam42 | jam52 | jam62 | jam72 | jam92 | jamB2 | jamD2 | jamF2 =>
    exact BusRun.refl.ends (jamCpu_sameStore s)
  | jmpAbs | tax | tay | txa | tya | tsx | txs | inx | iny | dex | dey | clc | sec | cli | sei | cld | sed | clv
  | ancImm0B | ancImm2B | alrImm | arrImm | axsImm | aneImm | lxaImm
  | nop | nopImp1A | nopImp3A | nopImp5A | nopImp7A | nopImpDA | nopImpFA | nopImm80 | nopImm82 | nopImm89 | nopImmC2 | nopImmE2 =>
    exact BusRun.refl.ends ⟨rfl, rfl, rfl, rfl, rfl⟩

theorem fetchByte_sameStore (s : State) : SameStore s (fetchByte s).2 :=
  (memRead_frame s.cpu.pc s).sameStore.trans ⟨rfl, rfl, rfl, rfl, rfl⟩

theorem fetchBytes_sameStore (n : Nat) (s : State) : SameStore s (fetchBytes n s).2 := by
  induction n generalizing s with
  | zero => exact SameStore.refl s
  | succ n ih => exact (fetchByte_sameStore s).trans (ih _)

/-- A step of the CPU fetches, and then jams, refuses or executes (60_exceptions.md R355). -/
theorem cpuStep_endsByBus (s : State) : EndsByBus s (cpuStep s) := by
  have hf := fetchByte_sameStore s
  unfold cpuStep
  dsimp only
  split
  · exact ⟨_, rfl, (hf.trans (jamCpu_sameStore _)).busRun⟩
  · split
    · exact ⟨_, rfl, hf.busRun.next ⟨rfl, rfl, rfl, rfl, rfl⟩⟩
    · obtain ⟨t, ht, hrun⟩ := exec_endsByBus (fetchOperands (fetchByte s).1 (fetchByte s).2).1
        (fetchOperands (fetchByte s).1 (fetchByte s).2).2
      exact ⟨t, ht, (hf.trans (fetchBytes_sameStore _ _)).busRun.trans hrun⟩

/-! ### The mix call -/

theorem dmcFetch_busRun (s : State) : BusRun s (dmcFetch s) := by
  have hread : BusRun s (addBurn 1 (memRead s.apu.dmc.addr s).2) := (memRead_busRun _ s).next (addBurn_sameStore 1 _)
  unfold dmcFetch
  dsimp only
  split
  · split
    · exact hread.next ⟨rfl, rfl, rfl, rfl, rfl⟩
    · split
      · refine BusRun.trans ?_ (irq_busRun _)
        exact hread.next ⟨rfl, rfl, rfl, rfl, rfl⟩
      · exact hread.next ⟨rfl, rfl, rfl, rfl, rfl⟩
  · exact hread.next ⟨rfl, rfl, rfl, rfl, rfl⟩

theorem dmcFetches_busRun (n : Nat) (s : State) : BusRun s (dmcFetches n s) := by
  induction n generalizing s with
  | zero => exact .refl
  | succ n ih =>
    unfold dmcFetches
    split
    · exact (dmcFetch_busRun s).trans (ih _)
    · exact .refl

theorem generateSample_busRun (s : State) : BusRun s (generateSample s) := by
  have hcount : SameStore s (countSample s.apu.clock s) := ⟨rfl, rfl, rfl, rfl, rfl⟩
  have hdmc : ∀ k u, BusRun u (dmcSample k u) := fun k u => (dmcFetches_busRun _ u).next ⟨rfl, rfl, rfl, rfl, rfl⟩
  exact (hcount.busRun.trans (hdmc _ _)).next ⟨rfl, rfl, rfl, rfl, rfl⟩

theorem generateSamples_busRun (n : Nat) (s : State) : BusRun s (generateSamples n s) := by
  induction n generalizing s with
  | zero => exact .refl
  | succ n ih => exact (generateSample_busRun s).trans (ih _)

theorem apuProcess_busRun (n : Nat) (s : State) : BusRun s (apuProcess n s) := by
  have hbuffer : SameStore s { s with host := { s.host with audio := [] } } := ⟨rfl, rfl, rfl, rfl, rfl⟩
  exact hbuffer.busRun.trans (generateSamples_busRun n _)

/-! ### The frame loop -/

theorem writeRow_sameStore (draw : Bool) (y : Nat) (row : List Byte) (s : State) : SameStore s (writeRow draw y row s) := by
  unfold writeRow
  split <;> exact ⟨rfl, rfl, rfl, rfl, rfl⟩

theorem detectStrike_sameStore (y : Nat) (s : State) : SameStore s (detectStrike y s) := by
  unfold detectStrike
  split
  · split <;> exact ⟨rfl, rfl, rfl, rfl, rfl⟩
  · exact SameStore.refl s

theorem detectOverflow_sameStore (y : Nat) (s : State) : SameStore s (detectOverflow y s) := by
  unfold detectOverflow
  split <;> exact ⟨rfl, rfl, rfl, rfl, rfl⟩

theorem renderLine_sameStore (line : Nat) (draw : Bool) (s : State) : SameStore s (renderLine line draw s) := by
  have hv : SameStore s { s with ppu := { s.ppu with v := lineStartV line s.ppu.v s.ppu.t } } := ⟨rfl, rfl, rfl, rfl, rfl⟩
  exact ((hv.trans (detectStrike_sameStore line _)).trans (detectOverflow_sameStore line _)).trans (writeRow_sameStore _ _ _ _)

/-- The PPU's line start writes no memory: the renderer reads. -/
theorem ppuScanline_sameStore (line : Nat) (draw : Bool) (s : State) : SameStore s (ppuScanline line draw s) := by
  unfold ppuScanline
  split
  · split
    · exact renderLine_sameStore line draw s
    · exact writeRow_sameStore _ _ _ s
  · split
    · exact ⟨rfl, rfl, rfl, rfl, rfl⟩
    · split <;> exact ⟨rfl, rfl, rfl, rfl, rfl⟩

theorem ppuEndScanline_sameStore (line : Nat) (s : State) : SameStore s (ppuEndScanline line s) := by
  unfold ppuEndScanline
  split <;> exact ⟨rfl, rfl, rfl, rfl, rfl⟩

theorem payBurn_sameStore (s : State) : SameStore s (payBurn s) := by
  have hburn (k : Nat) : SameStore s { s with run := { s.run with burn := s.run.burn - k } } := ⟨rfl, rfl, rfl, rfl, rfl⟩
  unfold payBurn
  split
  · exact (hburn _).trans (charge_sameStore _ _)
  · exact SameStore.refl s

theorem takePendingIrq_busRun (s : State) : BusRun s (takePendingIrq s) := by
  unfold takePendingIrq
  split
  · have hclear : SameStore s { s with run := { s.run with intPending := false } } := ⟨rfl, rfl, rfl, rfl, rfl⟩
    exact (hclear.busRun.trans (enterInterrupt_busRun false irqVector _)).next (charge_sameStore _ _)
  · exact .refl

theorem enterExecute_busRun (n : Int) (s : State) : BusRun s (enterExecute n s) := by
  unfold enterExecute
  split
  · exact .refl
  · have hbudget : SameStore s { s with run := { s.run with remaining := n } } := ⟨rfl, rfl, rfl, rfl, rfl⟩
    exact (hbudget.trans (payBurn_sameStore _)).busRun.trans (takePendingIrq_busRun _)

theorem beginSlice_busRun (k : SliceKind) (n : Int) (s : State) : BusRun s (beginSlice k n s) :=
  (enterExecute_busRun n s).next ⟨rfl, rfl, rfl, rfl, rfl⟩

theorem mapperHblank_busRun (s : State) : BusRun s (mapperHblank s) := by
  have hcount : SameStore s { s with mmc3 := { s.mmc3 with irqCounter := s.mmc3.irqCounter - 1 } } := ⟨rfl, rfl, rfl, rfl, rfl⟩
  unfold mapperHblank mmc3Hblank
  dsimp only
  split
  · split
    · split
      · exact hcount.busRun.trans (irq_busRun _)
      · exact hcount.busRun
    · exact .refl
  · exact .refl

theorem fiqTick_busRun (e : Nat) (s : State) : BusRun s (fiqTick e s) := by
  unfold fiqTick
  dsimp only
  split
  · split
    · exact SameStore.busRun ⟨rfl, rfl, rfl, rfl, rfl⟩
    · refine BusRun.trans ?_ (irq_busRun _)
      exact SameStore.busRun ⟨rfl, rfl, rfl, rfl, rfl⟩
  · exact SameStore.busRun ⟨rfl, rfl, rfl, rfl, rfl⟩

theorem settleSlice_busRun (start : Nat) (s : State) : BusRun s (settleSlice start s) := by
  have hacc : SameStore s { s with orch := { s.orch with acc := s.orch.acc - 12 * ((s.run.cycles - start : Nat) : Int) } } :=
    ⟨rfl, rfl, rfl, rfl, rfl⟩
  exact (hacc.busRun.trans (fiqTick_busRun _ _)).next ⟨rfl, rfl, rfl, rfl, rfl⟩

theorem startLineSlice_busRun (s : State) : BusRun s (startLineSlice s) := by
  refine BusRun.trans ?_ (beginSlice_busRun _ _ _)
  exact (mapperHblank_busRun s).next ⟨rfl, rfl, rfl, rfl, rfl⟩

theorem startLine_busRun (s : State) : BusRun s (startLine s) := by
  have hline := (ppuScanline_sameStore s.orch.scanline s.orch.draw s).busRun
  unfold startLine
  dsimp only
  split
  · exact SameStore.busRun ⟨rfl, rfl, rfl, rfl, rfl⟩
  · split
    · exact hline.trans (beginSlice_busRun _ _ _)
    · exact hline.trans (startLineSlice_busRun _)

theorem endNmiDelay_busRun (start : Nat) (s : State) : BusRun s (endNmiDelay start s) := by
  have hnmi : ∀ u : State, BusRun u (if u.ppu.ctrl0.getLsbD 7 then nmi u else u) := by
    intro u
    split
    · exact nmi_busRun u
    · exact .refl
  refine BusRun.trans ?_ (startLineSlice_busRun _)
  exact ((settleSlice_busRun start s).trans (hnmi _)).next ⟨rfl, rfl, rfl, rfl, rfl⟩

theorem endLineSlice_busRun (start : Nat) (s : State) : BusRun s (endLineSlice start s) :=
  ((settleSlice_busRun start s).next (ppuEndScanline_sameStore _ _)).next ⟨rfl, rfl, rfl, rfl, rfl⟩

theorem endSlice_busRun (k : SliceKind) (start : Nat) (s : State) : BusRun s (endSlice k start s) := by
  cases k with
  | nmiDelay => exact endNmiDelay_busRun start s
  | line => exact endLineSlice_busRun start s

/-! ### Host calls and the step -/

/-- A host call moves memories or page tables apart from the bus (an insert, an eject, a reset or a load), or is a chain of bus writes. -/
theorem runCall_cases {call : HostCall} {s t : State} (h : runCall call s = .next t) :
    (∃ image battery, t = insertCartridge image battery s) ∨ t = ejectCartridge s ∨ t = softReset s ∨ t = hardReset s ∨
      (∃ k, call = .loadState k ∧ t = loadSnapshot k s) ∨ BusRun s t := by
  have attachedNext {u : State} (hu : (if s.cart.attached then .next u else .fault .noCartridge : Result) = .next t) : t = u := by
    split at hu
    · cases hu
      rfl
    · cases hu
  cases call with
  | insert image battery =>
    cases h
    exact .inl ⟨image, battery, rfl⟩
  | eject => exact .inr (.inl (attachedNext h))
  | softReset => exact .inr (.inr (.inl (attachedNext h)))
  | hardReset => exact .inr (.inr (.inr (.inl (attachedNext h))))
  | loadState k => exact .inr (.inr (.inr (.inr (.inl ⟨k, rfl, attachedNext h⟩))))
  | renderframe draw => exact .inr (.inr (.inr (.inr (.inr (attachedNext h ▸ SameStore.busRun ⟨rfl, rfl, rfl, rfl, rfl⟩)))))
  | apuProcess n => exact .inr (.inr (.inr (.inr (.inr (attachedNext h ▸ apuProcess_busRun n s)))))
  | saveState => exact .inr (.inr (.inr (.inr (.inr (attachedNext h ▸ SameStore.busRun ⟨rfl, rfl, rfl, rfl, rfl⟩)))))

/-- The state in which a host call runs: the call is taken from the list. -/
def withCalls (calls : List HostCall) (s : State) : State := { s with host := { s.host with calls := calls } }

/-- A step is a chain of bus writes, or runs the oldest pending call. -/
theorem step_cases {s t : State} (h : step s = .next t) :
    BusRun s t ∨ ∃ call rest, s.host.calls = call :: rest ∧ runCall call (withCalls rest s) = .next t := by
  have ofEnds {r : Result} (he : EndsByBus s r) (hr : r = .next t) : BusRun s t := by
    obtain ⟨u, hu, hrun⟩ := he
    cases hr.symm.trans hu
    exact hrun
  unfold step machineStep at h
  split at h
  · unfold idleStep at h
    split at h
    · next call rest hc => exact .inr ⟨call, rest, hc, h⟩
    · left
      split at h
      · cases h
        exact SameStore.busRun ⟨rfl, rfl, rfl, rfl, rfl⟩
      · cases h
        exact .refl
  · cases h
    exact .inl (startLine_busRun s)
  · split at h
    · exact .inl (ofEnds (cpuStep_endsByBus s) h)
    · cases h
      exact .inl (endSlice_busRun _ _ s)

end Sys2Proof.Machine

/-! SUPPORT. What a reset, an insert and a load do to the memories, the cartridge and the pending calls (70_reset_and_hazards.md R590-R592;
64_frame_sync.md R577-R581). -/

namespace Sys2Proof.Machine

/-- The cartridge, both page tables and the pending calls of the host are the same. -/
structure SameMaps (s t : State) : Prop where
  cart : t.cart = s.cart
  pages : t.pages = s.pages
  ppuPages : t.ppu.pages = s.ppu.pages
  calls : t.host.calls = s.host.calls

theorem SameMaps.refl (s : State) : SameMaps s s := ⟨rfl, rfl, rfl, rfl⟩

theorem SameMaps.trans {s t u : State} (h : SameMaps s t) (g : SameMaps t u) : SameMaps s u where
  cart := g.cart.trans h.cart
  pages := g.pages.trans h.pages
  ppuPages := g.ppuPages.trans h.ppuPages
  calls := g.calls.trans h.calls

theorem SameStore.sameMaps {s t : State} (h : SameStore s t) : SameMaps s t := ⟨h.cart, h.pages, h.ppuPages, h.calls⟩

/-! ### The draws of a hard reset -/

theorem takeDraws_sameStore (n : Nat) (s : State) : SameStore s (takeDraws n s).2 := by
  rw [takeDraws_state]
  exact ⟨rfl, rfl, rfl, rfl, rfl⟩

/-- The state `t` with CHR-RAM filled from bytes, and the other memories those of `s`. -/
def withChrRam (chr : List Byte) (s t : State) : State := { t with mem := { s.mem with chr := Memory.ofBytes chr } }

theorem drawChrRam_cases (s : State) :
    drawChrRam s = s ∨ ∃ chr t, SameStore s t ∧ drawChrRam s = withChrRam chr s t := by
  by_cases h : s.cart.chrBanks = 0
  · exact .inr ⟨_, _, takeDraws_sameStore 8192 s, if_pos h⟩
  · exact .inl (if_neg h)

theorem drawChrRam_sameMaps (s : State) : SameMaps s (drawChrRam s) := by
  rcases drawChrRam_cases s with e | ⟨chr, t, ht, e⟩
  · rw [e]
    exact SameMaps.refl s
  · rw [e]
    exact ⟨ht.cart, ht.pages, ht.ppuPages, ht.calls⟩

theorem drawChrRam_wf {s : State} (h : s.mem.wf = true) : (drawChrRam s).mem.wf = true := by
  rcases drawChrRam_cases s with e | ⟨chr, t, -, e⟩
  · rw [e]
    exact h
  · rw [e, Mems.wf_iff]
    rw [Mems.wf_iff] at h
    obtain ⟨hram, hsram, hprg, -, hrest⟩ := h
    exact ⟨hram, hsram, hprg, Memory.ofBytes_wf chr, hrest⟩

/-- The state `t` with the PPU's memories and `rdbuf` filled, and the rest of the memories and of the PPU those of `s`. -/
def withPpuMemories (nt oam pal : List Byte) (rdbuf : Byte) (s t : State) : State :=
  { t with
    mem := { s.mem with nt := Memory.ofBytes nt, oam := Memory.ofBytes oam, pal := Memory.ofBytes pal }
    ppu := { s.ppu with rdbuf := rdbuf } }

theorem drawPpuMemories_eq (s : State) :
    ∃ nt oam pal rdbuf t, SameStore s t ∧ drawPpuMemories s = withPpuMemories nt oam pal rdbuf s t := by
  have hnt := takeDraws_sameStore 4096 s
  have hoam := hnt.trans (takeDraws_sameStore 256 _)
  have hpal := hoam.trans (takeDraws_sameStore 32 _)
  exact ⟨_, _, _, _, _, hpal.trans (takeDraw_frame _).sameStore, rfl⟩

theorem drawPpuMemories_sameMaps (s : State) : SameMaps s (drawPpuMemories s) := by
  obtain ⟨nt, oam, pal, rdbuf, t, ht, e⟩ := drawPpuMemories_eq s
  rw [e]
  exact ⟨ht.cart, ht.pages, rfl, ht.calls⟩

theorem drawPpuMemories_wf {s : State} (h : s.mem.wf = true) : (drawPpuMemories s).mem.wf = true := by
  obtain ⟨nt, oam, pal, rdbuf, t, -, e⟩ := drawPpuMemories_eq s
  rw [e, Mems.wf_iff]
  rw [Mems.wf_iff] at h
  obtain ⟨hram, hsram, hprg, hchr, -⟩ := h
  exact ⟨hram, hsram, hprg, hchr, Memory.ofBytes_wf nt, Memory.ofBytes_wf oam, Memory.ofBytes_wf pal⟩

theorem withCpu_sameStore (c : Cpu) (s : State) : SameStore s { s with cpu := c } := ⟨rfl, rfl, rfl, rfl, rfl⟩

theorem drawRegisters_sameStore (s : State) : SameStore s (drawRegisters s) := by
  have hdraws := (((takeDraw_frame s).trans (takeDraw_frame _)).trans (takeDraw_frame _)).trans (takeDraw_frame _)
  exact hdraws.sameStore.trans (withCpu_sameStore _ _)

/-! ### The resets -/

theorem cpuReset_sameStore (s : State) : SameStore s (cpuReset s) := by
  unfold cpuReset
  split
  · exact SameStore.refl s
  · dsimp only
    have hread (a : Addr) (u : State) : SameStore u (memRead16 a u).2 := (memRead16_frame a u).sameStore
    exact ⟨(hread _ _).mem, (hread _ _).cart, (hread _ _).pages, (hread _ _).ppuPages, (hread _ _).calls⟩

/-- After the mapping half of a soft reset the stores stay. -/
theorem softReset_sameStore (s : State) : SameStore (mapperReset (apuReset (ppuReset s))) (softReset s) := by
  refine SameStore.trans ?_ (cpuReset_sameStore _)
  exact ⟨rfl, rfl, rfl, rfl, rfl⟩

theorem softReset_mem (s : State) : (softReset s).mem = s.mem :=
  (softReset_sameStore s).mem.trans (mapperReset_frame _).1.mem

theorem softReset_calls (s : State) : (softReset s).host.calls = s.host.calls := by
  rw [(softReset_sameStore s).calls, (mapperReset_frame _).1.host]
  rfl

/-- The draws of a hard reset: CPU RAM is 0, the PPU's memories and the registers are draws (R591). -/
def hardDraws (s : State) : State := drawRegisters (drawPpuMemories (drawChrRam { s with mem := { s.mem with ram := [] } }))

/-- The cycle counter of a hard reset (R591). -/
def zeroCycles (s : State) : State := { s with run := { s.run with cycles := 0 } }

theorem hardReset_eq (s : State) : hardReset s = softReset (zeroCycles (hardDraws s)) := rfl

theorem zeroCycles_sameStore (s : State) : SameStore s (zeroCycles s) := ⟨rfl, rfl, rfl, rfl, rfl⟩

theorem hardDraws_sameMaps (s : State) : SameMaps s (hardDraws s) := by
  have hram : SameMaps s { s with mem := { s.mem with ram := [] } } := ⟨rfl, rfl, rfl, rfl⟩
  exact ((hram.trans (drawChrRam_sameMaps _)).trans (drawPpuMemories_sameMaps _)).trans (drawRegisters_sameStore _).sameMaps

theorem hardDraws_wf {s : State} (h : s.mem.wf = true) : (hardDraws s).mem.wf = true := by
  have hram : ({ s with mem := { s.mem with ram := [] } } : State).mem.wf = true := by
    rw [Mems.wf_iff] at h ⊢
    exact ⟨Memory.wf_nil, h.2⟩
  unfold hardDraws
  rw [(drawRegisters_sameStore _).mem]
  exact drawPpuMemories_wf (drawChrRam_wf hram)

theorem hardReset_wf {s : State} (h : s.mem.wf = true) : (hardReset s).mem.wf = true := by
  rw [hardReset_eq, softReset_mem, (zeroCycles_sameStore _).mem]
  exact hardDraws_wf h

theorem hardReset_calls (s : State) : (hardReset s).host.calls = s.host.calls := by
  rw [hardReset_eq, softReset_calls, (zeroCycles_sameStore _).calls, (hardDraws_sameMaps s).calls]

/-! ### Inserting a cartridge -/

/-- The state before the mapping of an insert, after the draws `d`: the rominfo and its memories are the image's (R578). -/
def insertedState (c : Cart) (image : List Byte) (battery : Option (List Byte)) (s : State) (d : List Byte × State) : State :=
  { d.2 with
    cart := c
    pages := insertPages
    mem := { s.mem with
      prg := Memory.ofBytes ((image.drop c.prgOffset).take c.prgBytes)
      chr := Memory.ofBytes (((image.drop c.prgOffset).drop c.prgBytes).take (8192 * c.chrBanks))
      sram := insertedSram c image battery d.1 }
    mmc1 := Mmc1.reset
    mmc3 := Mmc3.reset }

theorem attach_eq (c : Cart) (image : List Byte) (battery : Option (List Byte)) (s : State) :
    attach c image battery s = mapperInit (defaultMapping (insertedState c image battery s (takeDraws 8192 s))) := rfl

@[simp] theorem insertedState_cart (c : Cart) (image : List Byte) (battery : Option (List Byte)) (s : State) (d : List Byte × State) :
    (insertedState c image battery s d).cart = c := rfl

@[simp] theorem insertedState_host (c : Cart) (image : List Byte) (battery : Option (List Byte)) (s : State) (d : List Byte × State) :
    (insertedState c image battery s d).host = d.2.host := rfl

/-- The mapping of an insert moves page tables alone. -/
theorem attach_frame (c : Cart) (image : List Byte) (battery : Option (List Byte)) (s : State) :
    MapFrame (insertedState c image battery s (takeDraws 8192 s)) (attach c image battery s) := by
  rw [attach_eq]
  exact (defaultMapping_frame _).trans (mapperInit_frame _)

theorem insertedSram_wf (c : Cart) (image : List Byte) (battery : Option (List Byte)) (drawn : List Byte) :
    (insertedSram c image battery drawn).wf = true := by
  have htrainer : (if c.trainer then (Memory.ofBytes drawn).writeBytes 0x1000 ((image.drop 16).take 512)
      else Memory.ofBytes drawn).wf = true := by
    split
    · exact Memory.writeBytes_wf (Memory.ofBytes_wf drawn) _ _
    · exact Memory.ofBytes_wf drawn
  cases battery with
  | none => exact htrainer
  | some bytes => exact Memory.writeBytes_wf htrainer 0 _

theorem insertedState_wf {c : Cart} {image : List Byte} {battery : Option (List Byte)} {s : State} (d : List Byte × State)
    (h : s.mem.wf = true) : (insertedState c image battery s d).mem.wf = true := by
  rw [Mems.wf_iff] at h ⊢
  obtain ⟨hram, -, -, -, hppu⟩ := h
  exact ⟨hram, insertedSram_wf c image battery d.1, Memory.ofBytes_wf _, Memory.ofBytes_wf _, hppu⟩

theorem attach_wf {c : Cart} {image : List Byte} {battery : Option (List Byte)} {s : State} (h : s.mem.wf = true) :
    (attach c image battery s).mem.wf = true := by
  rw [(attach_frame c image battery s).mem]
  exact insertedState_wf _ h

theorem attach_calls (c : Cart) (image : List Byte) (battery : Option (List Byte)) (s : State) :
    (attach c image battery s).host.calls = s.host.calls := by
  rw [(attach_frame c image battery s).host, insertedState_host, (takeDraws_sameStore 8192 s).calls]

theorem status_sameStore (e : LoadStatus) (s : State) : SameStore s { s with host := { s.host with status := e } } :=
  ⟨rfl, rfl, rfl, rfl, rfl⟩

/-- An insert fails with a status and no other change (R580), or attaches the cartridge of the image and resets the machine (R578). -/
theorem insertCartridge_cases (image : List Byte) (battery : Option (List Byte)) (s : State) :
    SameStore s (insertCartridge image battery s) ∨
      ∃ c, parseImage image = .ok c ∧ SameStore (hardReset (attach c image battery s)) (insertCartridge image battery s) := by
  unfold insertCartridge
  cases parseImage image with
  | error e => exact .inl (status_sameStore e s)
  | ok c => exact .inr ⟨c, rfl, status_sameStore .loaded (hardReset (attach c image battery s))⟩

/-- An image that loads has a PRG bank (R577, R580). -/
theorem parseImage_prgBanks {image : List Byte} {c : Cart} (h : parseImage image = .ok c) : 1 ≤ c.prgBanks := by
  unfold parseImage at h
  dsimp only at h
  repeat' split at h
  all_goals cases h
  next hbanks _ _ => exact Nat.one_le_iff_ne_zero.mpr hbanks

end Sys2Proof.Machine

/-! SUPPORT. The canonical form of the memories under every step (20_memory.md R132, R134). -/

namespace Sys2Proof.Machine

/-! ### The pending calls -/

theorem BusRun.calls {s t : State} (h : BusRun s t) : t.host.calls = s.host.calls := by
  induction h with
  | refl => rfl
  | write _ a v ih => rw [(memWrite_frame a v _).host, ih]
  | next _ g ih => rw [g.calls, ih]

theorem insertCartridge_calls (image : List Byte) (battery : Option (List Byte)) (s : State) :
    (insertCartridge image battery s).host.calls = s.host.calls := by
  rcases insertCartridge_cases image battery s with hfail | ⟨c, -, hload⟩
  · exact hfail.calls
  · rw [hload.calls, hardReset_calls, attach_calls]

theorem loadSnapshot_calls (k : Snapshot) (s : State) : (loadSnapshot k s).host.calls = s.host.calls := by
  unfold loadSnapshot
  split <;> rfl

/-- No host call adds or takes a pending call. -/
theorem runCall_calls {call : HostCall} {s t : State} (h : runCall call s = .next t) : t.host.calls = s.host.calls := by
  rcases runCall_cases h with ⟨image, battery, ht⟩ | ht | ht | ht | ⟨k, -, ht⟩ | hrun
  · rw [ht, insertCartridge_calls]
  · rw [ht]
    rfl
  · rw [ht, softReset_calls]
  · rw [ht, hardReset_calls]
  · rw [ht, loadSnapshot_calls]
  · exact hrun.calls

/-- A step adds no pending call. -/
theorem step_calls_subset {s t : State} (h : step s = .next t) : t.host.calls ⊆ s.host.calls := by
  rcases step_cases h with hrun | ⟨call, rest, hcalls, hcall⟩
  · rw [hrun.calls]
    exact List.Subset.refl _
  · have hrest : t.host.calls = rest := runCall_calls hcall
    rw [hrest, hcalls]
    exact List.subset_cons_self call rest

/-! ### The canonical form -/

theorem memWf_iff (s : State) : s.memWf = true ↔ s.mem.wf = true ∧ ∀ c ∈ s.host.calls, c.wf = true := by
  rw [State.memWf, Bool.and_eq_true, List.all_eq_true]

theorem SameStore.wf {s t : State} (h : SameStore s t) (hs : s.mem.wf = true) : t.mem.wf = true := h.mem ▸ hs

theorem BusRun.wf {s t : State} (h : BusRun s t) (hs : s.mem.wf = true) : t.mem.wf = true :=
  h.keeps (P := fun s => s.mem.wf = true) (fun _ _ => SameStore.wf) memWrite_wf hs

theorem insertCartridge_wf {image : List Byte} {battery : Option (List Byte)} {s : State} (hs : s.mem.wf = true) :
    (insertCartridge image battery s).mem.wf = true := by
  rcases insertCartridge_cases image battery s with hfail | ⟨c, -, hload⟩
  · exact hfail.wf hs
  · exact hload.wf (hardReset_wf (attach_wf hs))

theorem ejectCartridge_wf {s : State} (hs : s.mem.wf = true) : (ejectCartridge s).mem.wf = true := by
  rw [Mems.wf_iff] at hs ⊢
  obtain ⟨hram, -, -, -, hppu⟩ := hs
  exact ⟨hram, Memory.wf_nil, Memory.wf_nil, Memory.wf_nil, hppu⟩

theorem loadSnapshot_wf {k : Snapshot} {s : State} (hk : k.mem.wf = true) (hs : s.mem.wf = true) :
    (loadSnapshot k s).mem.wf = true := by
  unfold loadSnapshot
  split
  · exact hk
  · exact hs

/-- A host call keeps the canonical form if the saved state that it would load has it. -/
theorem runCall_wf {call : HostCall} {s t : State} (h : runCall call s = .next t) (hc : call.wf = true)
    (hs : s.mem.wf = true) : t.mem.wf = true := by
  rcases runCall_cases h with ⟨image, battery, ht⟩ | ht | ht | ht | ⟨k, hk, ht⟩ | hrun
  · exact ht ▸ insertCartridge_wf hs
  · exact ht ▸ ejectCartridge_wf hs
  · exact ht ▸ (softReset_mem s).symm ▸ hs
  · exact ht ▸ hardReset_wf hs
  · rw [hk] at hc
    exact ht ▸ loadSnapshot_wf hc hs
  · exact hrun.wf hs

/-- Settles O13: a step is a chain of bus writes, each of which keeps the canonical form, or a host call, which fills memories from bytes or
brings in a saved state that is canonical. -/
theorem stepKeepsCanonicalMemory : Obligations.StepKeepsCanonicalMemory := by
  unfold Obligations.StepKeepsCanonicalMemory
  intro s t hs h
  rw [memWf_iff] at hs ⊢
  obtain ⟨hmem, hcalls⟩ := hs
  refine ⟨?_, fun c hc => hcalls c (step_calls_subset h hc)⟩
  rcases step_cases h with hrun | ⟨call, rest, hpending, hcall⟩
  · exact hrun.wf hmem
  · exact runCall_wf (s := withCalls rest s) hcall (hcalls call (hpending ▸ List.mem_cons_self)) hmem

end Sys2Proof.Machine

/-! SUPPORT. The mapping of 20_memory.md R144 and 10_state.md R52: each banking primitive puts only pages inside PRG-ROM and CHR into the
tables, so every `Apply()`, every bus write and every reset keeps the mapping. -/

namespace Sys2Proof.Machine

open Sys2Proof.Claims

/-! ### Pages inside a memory -/

/-- A CPU page inside PRG-ROM. -/
def PrgPage (c : Cart) (p : Page) : Prop := ∃ base, p = .mapped .prg base ∧ base + 4096 ≤ c.prgBytes

/-- A PPU page inside CHR. -/
def ChrPage (c : Cart) (p : PpuPage) : Prop := ∃ base, p = ⟨.chr, base⟩ ∧ base + 1024 ≤ c.chrBytes

/-- The mapping of a state's own page tables. -/
def MapsCart (s : State) : Prop := Mapped s.cart s.pages s.ppu.pages

/-- An offset reduced modulo a whole number of windows leaves room for a window. -/
theorem window_fits {total window x : Nat} (ht : 0 < total) (hw : window ∣ total) (hx : window ∣ x) :
    x % total + window ≤ total := by
  obtain ⟨n, rfl⟩ := hw
  obtain ⟨y, rfl⟩ := hx
  have hn : 0 < n := Nat.pos_of_mul_pos_left ht
  have hlt : y % n + 1 ≤ n := Nat.mod_lt y hn
  calc window * y % (window * n) + window = window * (y % n + 1) := by rw [Nat.mul_mod_mul_left, Nat.mul_succ]
    _ ≤ window * n := Nat.mul_le_mul_left window hlt

theorem prgEntry_prgPage {c : Cart} (hc : 1 ≤ c.prgBanks) {k : Nat} (hk : 4 ∣ k) (b : Bank) (j : Nat) :
    PrgPage c (prgEntry c.prgBytes (1024 * k) b j) := by
  refine ⟨_, rfl, window_fits ?_ ?_ ?_⟩
  · unfold Cart.prgBytes
    omega
  · exact Dvd.dvd.mul_right (by decide) c.prgBanks
  · have hsize : 4096 ∣ 1024 * k := mul_dvd_mul (by decide : 1024 ∣ 1024) hk
    exact dvd_add (hsize.mul_left _) (dvd_mul_right 4096 j)

theorem chrEntry_chrPage (c : Cart) (k : Nat) (b : Bank) (j : Nat) : ChrPage c (chrEntry c.chrBytes (1024 * k) b j) := by
  have hchr : 0 < c.chrBytes ∧ 1024 ∣ c.chrBytes := by
    unfold Cart.chrBytes
    split <;> omega
  refine ⟨_, rfl, window_fits hchr.1 hchr.2 ?_⟩
  exact dvd_add ((dvd_mul_right 1024 k).mul_left _) (dvd_mul_right 1024 j)

theorem ntEntry_page (m : Mirror) (i : Nat) : ∃ k : Fin 4, ntEntry m i = ⟨.nt, 1024 * k.val⟩ := by
  unfold ntEntry Mirror.page
  split
  · exact ⟨m.nt0, rfl⟩
  · exact ⟨m.nt1, rfl⟩
  · exact ⟨m.nt2, rfl⟩
  · exact ⟨m.nt3, rfl⟩

/-! ### The banking primitives -/

theorem SameMaps.mapsCart {s t : State} (h : SameMaps s t) (hs : MapsCart s) : MapsCart t := by
  unfold MapsCart
  rw [h.cart, h.pages, h.ppuPages]
  exact hs

theorem bankPrg_mapsCart {k : Nat} (hk : 4 ∣ k) (a : Nat) (b : Bank) {s : State} (hs : MapsCart s) : MapsCart (bankPrg k a b s) := by
  unfold MapsCart
  rw [bankPrg_cart, bankPrg_ppu]
  intro hatt
  obtain ⟨hbanks, hprg, hppu⟩ := hs hatt
  refine ⟨hbanks, ?_, hppu⟩
  intro i hi
  rw [bankPrg_get]
  split
  · exact prgEntry_prgPage hbanks hk b _
  · exact hprg i hi

theorem bankChr_mapsCart {k a : Nat} (ha : a / 1024 + k ≤ 8) (b : Bank) {s : State} (hs : MapsCart s) : MapsCart (bankChr k a b s) := by
  unfold MapsCart
  rw [bankChr_cart, bankChr_pages]
  intro hatt
  obtain ⟨hbanks, hprg, hchr, hnt, hrep⟩ := hs hatt
  have keepsNt (i : Fin 16) (hi : 8 ≤ i.val) : (bankChr k a b s).ppu.pages.get i = s.ppu.pages.get i := by
    rw [bankChr_get, if_neg (by omega)]
  refine ⟨hbanks, hprg, ?_, ?_, ?_⟩
  · intro i hi
    rw [bankChr_get]
    split
    · exact chrEntry_chrPage s.cart k b _
    · exact hchr i hi
  · intro i hi
    rw [keepsNt i hi]
    exact hnt i hi
  · intro i j hi hj
    rw [keepsNt i hi, keepsNt j (by omega)]
    exact hrep i j hi hj

/-- The nametable half of the mapping after `ppu_mirror` (R505). -/
theorem ppuMirror_nametables (m : Mirror) (s : State) :
    (∀ i : Fin 16, 8 ≤ i.val → ∃ k : Fin 4, (ppuMirror m s).ppu.pages.get i = ⟨.nt, 1024 * k.val⟩) ∧
      ∀ i j : Fin 16, 8 ≤ i.val → j.val = i.val + 4 → (ppuMirror m s).ppu.pages.get j = (ppuMirror m s).ppu.pages.get i := by
  constructor
  · intro i hi
    rw [ppuMirror_get, if_pos hi]
    exact ntEntry_page m _
  · intro i j hi hj
    rw [ppuMirror_get, ppuMirror_get, if_pos hi, if_pos (by omega), show j.val % 4 = i.val % 4 by omega]

theorem ppuMirror_mapsCart (m : Mirror) {s : State} (hs : MapsCart s) : MapsCart (ppuMirror m s) := by
  unfold MapsCart
  rw [ppuMirror_cart, ppuMirror_pages]
  intro hatt
  obtain ⟨hbanks, hprg, hchr, -, -⟩ := hs hatt
  refine ⟨hbanks, hprg, ?_, ppuMirror_nametables m s⟩
  intro i hi
  rw [ppuMirror_get, if_neg (by omega)]
  exact hchr i hi

/-- The generic default mapping sets every entry, so it needs of the state only a PRG bank (R506). -/
theorem defaultMapping_mapsCart {s : State} (hbanks : s.cart.attached = true → 1 ≤ s.cart.prgBanks) : MapsCart (defaultMapping s) := by
  unfold MapsCart
  rw [(defaultMapping_frame s).cart]
  intro hatt
  refine ⟨hbanks hatt, ?_, ?_, ppuMirror_nametables _ _⟩
  · intro i hi
    have h16 : 4 ∣ 16 := by decide
    unfold defaultMapping
    rw [ppuMirror_pages, bankChr_pages, bankPrg_get]
    split
    · rw [bankPrg_cart]
      exact prgEntry_prgPage (hbanks hatt) h16 _ _
    · rw [bankPrg_get, if_pos (by omega)]
      exact prgEntry_prgPage (hbanks hatt) h16 _ _
  · intro i hi
    unfold defaultMapping
    rw [ppuMirror_get, if_neg (by omega), bankChr_get, if_pos (by omega), bankPrg_cart, bankPrg_cart]
    exact chrEntry_chrPage s.cart 8 _ _

/-! ### The mappers -/

theorem mmc1ApplyPrg_mapsCart {s : State} (hs : MapsCart s) : MapsCart (mmc1ApplyPrg s) := by
  have h16 : 4 ∣ 16 := by decide
  unfold mmc1ApplyPrg
  split
  · exact bankPrg_mapsCart h16 _ _ (bankPrg_mapsCart h16 _ _ hs)
  · exact bankPrg_mapsCart h16 _ _ (bankPrg_mapsCart h16 _ _ hs)
  · exact bankPrg_mapsCart (by decide) _ _ hs

theorem mmc1ApplyChr_mapsCart {s : State} (hs : MapsCart s) : MapsCart (mmc1ApplyChr s) := by
  unfold mmc1ApplyChr
  split
  · exact bankChr_mapsCart (by decide) _ (bankChr_mapsCart (by decide) _ hs)
  · exact bankChr_mapsCart (by decide) _ hs

theorem mmc1Apply_mapsCart {s : State} (hs : MapsCart s) : MapsCart (mmc1Apply s) :=
  mmc1ApplyChr_mapsCart (mmc1ApplyPrg_mapsCart (ppuMirror_mapsCart _ hs))

theorem mmc3ApplyPrg_mapsCart {s : State} (hs : MapsCart s) : MapsCart (mmc3ApplyPrg s) := by
  have bank8 (a : Nat) (b : Bank) {u : State} (hu : MapsCart u) : MapsCart (bankPrg 8 a b u) := bankPrg_mapsCart (by decide) a b hu
  unfold mmc3ApplyPrg
  dsimp only
  split <;> exact bank8 _ _ (bank8 _ _ (bank8 _ _ (bank8 _ _ hs)))

/-- Wherever the two halves of the pattern tables stand, the 1 KB banks of MMC3 stay in them (R524). -/
theorem mmc3ApplyChr_mapsCart {s : State} (hs : MapsCart s) : MapsCart (mmc3ApplyChr s) := by
  have bank1 (half : Bool) (x y : Nat) (b : Bank) {u : State} (hx : x ≤ 0x1000 ∧ y ≤ 0x1000) (off : Nat) (ho : off < 0x1000)
      (hu : MapsCart u) : MapsCart (bankChr 1 ((if half then x else y) + off) b u) := by
    refine bankChr_mapsCart ?_ b hu
    split <;> omega
  unfold mmc3ApplyChr
  dsimp only
  iterate 8 refine bank1 _ _ _ _ (by decide) _ (by decide) ?_
  exact hs

theorem mmc3Apply_mapsCart {s : State} (hs : MapsCart s) : MapsCart (mmc3Apply s) :=
  mmc3ApplyChr_mapsCart (mmc3ApplyPrg_mapsCart hs)

theorem mmc1Write_mapsCart (a : Addr) (d : Byte) {s : State} (hs : MapsCart s) : MapsCart (mmc1Write a d s) := by
  have withMmc1 (m : Mmc1) : MapsCart { s with mmc1 := m } := hs
  unfold mmc1Write
  dsimp only
  split
  · exact mmc1Apply_mapsCart (withMmc1 _)
  · exact withMmc1 _

theorem mmc3Write_mapsCart (a : Addr) (d : Byte) {s : State} (hs : MapsCart s) : MapsCart (mmc3Write a d s) := by
  have withMmc3 (m : Mmc3) : MapsCart { s with mmc3 := m } := hs
  unfold mmc3Write
  split
  · exact mmc3Apply_mapsCart (withMmc3 _)
  · exact mmc3Apply_mapsCart (withMmc3 _)
  · split
    · exact hs
    · exact ppuMirror_mapsCart _ hs
  · exact hs
  · exact withMmc3 _
  · exact withMmc3 _
  · exact withMmc3 _
  · exact withMmc3 _

theorem mapperInit_mapsCart {s : State} (hs : MapsCart s) : MapsCart (mapperInit s) := by
  have h16 : 4 ∣ 16 := by decide
  unfold mapperInit
  split
  · exact bankChr_mapsCart (by decide) _ (bankPrg_mapsCart h16 _ _ (bankPrg_mapsCart h16 _ _ hs))
  · exact mmc3Apply_mapsCart hs
  · exact hs

/-! ### Bus writes -/

theorem ppuRegWrite_ppuPages (a : Addr) (d : Byte) (s : State) : (ppuRegWrite a d s).ppu.pages = s.ppu.pages := by
  unfold ppuRegWrite
  split
  · rfl
  · rfl
  · rfl
  · rfl
  · unfold writeScroll
    split <;> rfl
  · unfold writeVramAddr
    split <;> rfl
  · rfl
  · rfl

theorem oamDmaCopy_ppuPages (d : Byte) (n i : Nat) (s : State) : (oamDmaCopy d n i s).ppu.pages = s.ppu.pages := by
  induction n generalizing i s with
  | zero => rfl
  | succ n ih =>
    unfold oamDmaCopy
    rw [ih]
    exact (memRead_frame _ s).sameStore.ppuPages

theorem WriteFrame.sameMaps {s t : State} (h : WriteFrame s t) (hp : t.pages = s.pages) (hq : t.ppu.pages = s.ppu.pages) :
    SameMaps s t := ⟨h.cart, hp, hq, by rw [h.host]⟩

/-- A write handler other than the mappers' moves no page of either table. -/
theorem handler_sameMaps {h : WriteHandler} (h1 : h ≠ .mmc1) (h3 : h ≠ .mmc3) (a : Addr) (v : Byte) (s : State) :
    SameMaps s (h.run a v s) := by
  cases h with
  | ramMirror => exact ⟨rfl, rfl, rfl, rfl⟩
  | ppuReg => exact (ppuRegWrite_frame a v s).1.sameMaps (ppuRegWrite_frame a v s).2.1 (ppuRegWrite_ppuPages a v s)
  | apuReg =>
    obtain ⟨u, hu⟩ := apuRegWrite_frame a v s
    exact (show WriteHandler.run .apuReg a v s = _ from hu) ▸ ⟨rfl, rfl, rfl, rfl⟩
  | oamDma =>
    refine (handler_frame .oamDma a v s).sameMaps ((handler_memory (by decide) a v s).2.2 h1 h3) ?_
    show (release (addBurn oamDmaCycles (oamDmaCopy v 256 0 s))).ppu.pages = s.ppu.pages
    rw [release_ppu, addBurn_ppu, oamDmaCopy_ppuPages]
  | apuEnable => exact ⟨rfl, rfl, rfl, rfl⟩
  | padStrobe => exact ⟨rfl, rfl, rfl, rfl⟩
  | fiqState => exact ⟨rfl, rfl, rfl, rfl⟩
  | mmc1 => exact absurd rfl h1
  | mmc3 => exact absurd rfl h3

theorem pageWrite_sameMaps (a : Addr) (v : Byte) (s : State) : SameMaps s (pageWrite a v s) := by
  unfold pageWrite
  split <;> exact ⟨rfl, rfl, rfl, rfl⟩

theorem handler_mapsCart (h : WriteHandler) (a : Addr) (v : Byte) {s : State} (hs : MapsCart s) : MapsCart (h.run a v s) := by
  by_cases h1 : h = .mmc1
  · rw [h1]
    exact mmc1Write_mapsCart a v hs
  · by_cases h3 : h = .mmc3
    · rw [h3]
      exact mmc3Write_mapsCart a v hs
    · exact (handler_sameMaps h1 h3 a v s).mapsCart hs

/-- Every bus write, a mapper's register write included, keeps the mapping. -/
theorem memWrite_mapsCart (a : Addr) (v : Byte) {s : State} (hs : MapsCart s) : MapsCart (memWrite a v s) := by
  unfold memWrite
  split
  · exact hs
  · split
    · exact handler_mapsCart _ a v hs
    · exact (pageWrite_sameMaps a v s).mapsCart hs

theorem BusRun.mapsCart {s t : State} (h : BusRun s t) (hs : MapsCart s) : MapsCart t :=
  h.keeps (fun _ _ hsame => hsame.sameMaps.mapsCart) (fun a v _ => memWrite_mapsCart a v) hs

/-! ### Host calls -/

/-- A soft reset maps the cartridge anew, so it needs of the state only a PRG bank (R507). -/
theorem softReset_mapsCart {s : State} (hbanks : s.cart.attached = true → 1 ≤ s.cart.prgBanks) : MapsCart (softReset s) :=
  (softReset_sameStore s).sameMaps.mapsCart (mapperInit_mapsCart (defaultMapping_mapsCart hbanks))

theorem hardReset_mapsCart {s : State} (hbanks : s.cart.attached = true → 1 ≤ s.cart.prgBanks) : MapsCart (hardReset s) := by
  rw [hardReset_eq]
  apply softReset_mapsCart
  rw [(zeroCycles_sameStore _).cart, (hardDraws_sameMaps s).cart]
  exact hbanks

theorem insertCartridge_mapsCart {image : List Byte} {battery : Option (List Byte)} {s : State} (hs : MapsCart s) :
    MapsCart (insertCartridge image battery s) := by
  rcases insertCartridge_cases image battery s with hfail | ⟨c, hparse, hload⟩
  · exact hfail.sameMaps.mapsCart hs
  · refine hload.sameMaps.mapsCart (hardReset_mapsCart fun _ => ?_)
    rw [(attach_frame c image battery s).cart, insertedState_cart]
    exact parseImage_prgBanks hparse

theorem loadSnapshot_mapsCart {k : Snapshot} {s : State} (hk : Mapped k.cart k.pages k.ppu.pages) (hs : MapsCart s) :
    MapsCart (loadSnapshot k s) := by
  by_cases h : sameImage k s = true
  · rw [loadSnapshot_of_same h]
    exact hk
  · rw [loadSnapshot_of_other h]
    exact hs

/-- A host call keeps the mapping if the saved state that it would load has it. -/
theorem runCall_mapsCart {call : HostCall} {s t : State} (h : runCall call s = .next t)
    (hc : ∀ k, call = .loadState k → Mapped k.cart k.pages k.ppu.pages) (hs : MapsCart s) : MapsCart t := by
  have hbanks : s.cart.attached = true → 1 ≤ s.cart.prgBanks := fun hatt => (hs hatt).1
  rcases runCall_cases h with ⟨image, battery, ht⟩ | ht | ht | ht | ⟨k, hk, ht⟩ | hrun
  · exact ht ▸ insertCartridge_mapsCart hs
  · rw [ht]
    exact fun hatt => absurd hatt Bool.false_ne_true
  · exact ht ▸ softReset_mapsCart hbanks
  · exact ht ▸ hardReset_mapsCart hbanks
  · exact ht ▸ loadSnapshot_mapsCart (hc k hk) hs
  · exact hrun.mapsCart hs

theorem allMapped_iff (s : State) :
    AllMapped s ↔ MapsCart s ∧ ∀ k, HostCall.loadState k ∈ s.host.calls → Mapped k.cart k.pages k.ppu.pages := Iff.rfl

/-- Settles O14: a step is a chain of bus writes, each of which keeps the mapping, or a host call, which maps the cartridge anew, detaches it
or brings in a saved state that is mapped. -/
theorem stepKeepsTheMapping : Obligations.StepKeepsTheMapping := by
  unfold Obligations.StepKeepsTheMapping
  intro s t hs h
  rw [allMapped_iff] at hs ⊢
  obtain ⟨hmaps, hsaved⟩ := hs
  refine ⟨?_, fun k hk => hsaved k (step_calls_subset h hk)⟩
  rcases step_cases h with hrun | ⟨call, rest, hcalls, hcall⟩
  · exact hrun.mapsCart hmaps
  · refine runCall_mapsCart (s := withCalls rest s) hcall ?_ hmaps
    rintro k rfl
    exact hsaved k (hcalls ▸ List.mem_cons_self)

/-- The blank cartridge of log 2 is mapped: 16 KB of PRG-ROM twice, 8 KB of CHR-RAM and horizontal mirroring. -/
theorem reset_allMapped : AllMapped State.reset := by
  have hprg : ∀ i : Fin 16, 8 ≤ i.val →
      blankPages.get i = .mapped .prg (4096 * (i.val % 4)) ∧ 4096 * (i.val % 4) + 4096 ≤ Cart.blank.prgBytes := by decide
  have hchr : ∀ i : Fin 16, i.val < 8 →
      blankPpuPages.get i = ⟨.chr, 1024 * i.val⟩ ∧ 1024 * i.val + 1024 ≤ Cart.blank.chrBytes := by decide
  have hnt : ∀ i : Fin 16, 8 ≤ i.val → ∃ k : Fin 4, blankPpuPages.get i = ⟨.nt, 1024 * k.val⟩ := by decide
  have hrep : ∀ i j : Fin 16, 8 ≤ i.val → j.val = i.val + 4 → blankPpuPages.get j = blankPpuPages.get i := by decide
  refine ⟨fun _ => ⟨by decide, fun i hi => ⟨_, hprg i hi⟩, fun i hi => ⟨_, hchr i hi⟩, hnt, hrep⟩, ?_⟩
  intro k hk
  exact absurd hk List.not_mem_nil

/-- Settles O15: at reset the memories are empty, and the blank cartridge is mapped. -/
theorem invariantsHoldAtReset : Obligations.InvariantsHoldAtReset := by
  unfold Obligations.InvariantsHoldAtReset
  exact ⟨reset_memWf, reset_allMapped⟩

end Sys2Proof.Machine

/-! SUPPORT. The bus where no device and no mapper claims the address (20_memory.md R131-R134). -/

namespace Sys2Proof.Machine

/-- Settles O36, by the reads of RAM, of the page table and the frame of every read. -/
theorem busReads : Obligations.BusReads := by
  unfold Obligations.BusReads
  intro a s
  refine ⟨fun ha => memRead_ram ha s, fun ha base => ?_, memRead_frame a s⟩
  rw [memRead_page ha]
  unfold pageRead
  refine ⟨?_, ?_, ?_, ?_⟩
  all_goals
    intro hpage
    rw [hpage]
    rfl

/-- From $4018 on the write table has an address only for mappers 1 and 4, and only from $8000 on (63_mapper.md R511, R512, R521). -/
theorem writeTable_lookup_none {m a : Nat} (ha : 0x4018 ≤ a) (hm : a < 0x8000 ∨ (m ≠ 1 ∧ m ≠ 4)) : (writeTable m).lookup a = none := by
  cases hl : (writeTable m).lookup a with
  | none => rfl
  | some h =>
    have h8 := (lookup_mapper hl ha).1
    obtain ⟨h1, h4⟩ := hm.resolve_left (by omega)
    have htable : mapperWriteTable m = [] := by
      unfold mapperWriteTable
      split
      · exact absurd rfl h1
      · exact absurd rfl h4
      · rfl
    unfold writeTable defaultWriteTable at hl
    rw [htable] at hl
    simp only [List.cons_append, List.nil_append, HandlerTable.lookup] at hl
    repeat rw [if_neg (by omega)] at hl
    exact hl.symm

/-- The page table serves the writes from $4018 on that no mapper claims (20_memory.md R132, R134). -/
theorem memWrite_page {a : Addr} {s : State} (ha : 0x4018 ≤ a.toNat) (hm : a.toNat < 0x8000 ∨ (s.cart.mapper ≠ 1 ∧ s.cart.mapper ≠ 4))
    (v : Byte) : memWrite a v s = pageWrite a v s := by
  unfold memWrite
  rw [if_neg (by omega), writeTable_lookup_none ha hm]

/-- Settles O37, by the writes of RAM, of the page table and the frames of every write. -/
theorem busWrites : Obligations.BusWrites := by
  unfold Obligations.BusWrites
  intro a v s
  refine ⟨fun ha => memWrite_ram ha v s, fun ha hm base => ?_, memWrite_frame a v s, memWrite_storeFrame a v s⟩
  rw [memWrite_page ha hm]
  unfold pageWrite
  refine ⟨fun hsram => ?_, fun hprg => ?_, fun hdead => ?_⟩
  · rw [hsram]
    rfl
  · rw [hprg]
  · rw [hdead]

end Sys2Proof.Machine

/-! SUPPORT. The decoder through R190's map: the form of each entry is the map's row with the operand bytes in place, so that opcode and
operand bytes determine the instruction (30_encoding.md R170-R172, R190). -/

namespace Sys2Proof

open Sys2Proof.Claims

/-! ### The opcode map -/

/-- The operand of an addressing mode with its bytes in place (30_encoding.md R171, R174). -/
def Mode.operand : Mode → Byte → Byte → Operand
  | .imp, _, _ => .imp
  | .acc, _, _ => .acc
  | .brk, _, _ => .brk
  | .imm, b1, _ => .imm b1
  | .zp, b1, _ => .zp b1
  | .zpx, b1, _ => .zpx b1
  | .zpy, b1, _ => .zpy b1
  | .izx, b1, _ => .izx b1
  | .izy, b1, _ => .izy b1
  | .rel, b1, _ => .rel b1
  | .abs, b1, b2 => .abs b1 b2
  | .absx, b1, b2 => .absx b1 b2
  | .absy, b1, b2 => .absy b1 b2
  | .ind, b1, b2 => .ind b1 b2

@[simp] theorem Mode.operand_mode (m : Mode) (b1 b2 : Byte) : (m.operand b1 b2).mode = m := by cases m <;> rfl

/-- How many of the bytes a mode takes does not depend on their values. -/
theorem Mode.operand_bytes (m : Mode) (b1 b2 : Byte) :
    (m.operand b1 b2).bytes = [b1, b2].take (m.operand 0 0).bytes.length := by cases m <;> rfl

/-- The mnemonic and the mode of an opcode byte in R190's map. -/
def specRow (op : Byte) : Mnemonic × Mode := specMap.getD op.toNat (.JAM, .imp)

/-- The decoder's map against R190's, row by row. -/
theorem opcodeMap_form :
    opcodeMap.map (fun e b1 b2 => (e b1 b2).form) = specMap.map (fun m b1 b2 => (m.1, m.2.operand b1 b2)) := by
  unfold opcodeMap specMap
  simp only [List.map_append]
  rfl

theorem opcodeMap_length : opcodeMap.length = 256 := by
  unfold opcodeMap
  simp only [List.length_append]
  rfl

theorem specMap_length : specMap.length = 256 := by
  unfold specMap
  simp only [List.length_append]
  rfl

theorem decodeOp_form (op b1 b2 : Byte) : (decodeOp op b1 b2).form = ((specRow op).1, (specRow op).2.operand b1 b2) := by
  have hmap : op.toNat < opcodeMap.length := opcodeMap_length ▸ op.isLt
  have hspec : op.toNat < specMap.length := specMap_length ▸ op.isLt
  have hrow := congrArg (·[op.toNat]?) opcodeMap_form
  simp only [List.getElem?_map, List.getElem?_eq_getElem hmap, List.getElem?_eq_getElem hspec, Option.map_some,
    Option.some.injEq] at hrow
  unfold decodeOp specRow
  rw [List.getD_eq_getElem _ _ hmap, List.getD_eq_getElem _ _ hspec]
  exact congrFun (congrFun hrow b1) b2

/-- The opcode of a map entry does not depend on the operand bytes, so the 256 opcodes are compared with these left free. -/
theorem decodeOp_opcode (op b1 b2 : Byte) : (decodeOp op b1 b2).opcode = op := by
  revert op
  exact of_decide_eq_true rfl

theorem decodeOp_bytes (op b1 b2 : Byte) : (decodeOp op b1 b2).form.2.bytes = [b1, b2].take (operandCount op) := by
  unfold operandCount
  rw [decodeOp_form, decodeOp_form]
  exact Mode.operand_bytes _ b1 b2

theorem operandCount_le_two (op : Byte) : operandCount op ≤ 2 := by
  have h : operandCount op = min (operandCount op) 2 := (congrArg List.length (decodeOp_bytes op 0 0)).trans List.length_take
  omega

/-! ### An instruction from its opcode and operand bytes -/

/-- The laws of Laws/PerInstr.lean together: every instruction is the one that its own opcode and operand bytes decode to. -/
theorem encodedLength (i : Instr) : Laws.EncodedLength.Statement i := by
  cases i <;> exact ⟨rfl, rfl, rfl⟩

theorem decodeOp_own (i : Instr) : decodeOp i.opcode (i.form.2.bytes.getD 0 0) (i.form.2.bytes.getD 1 0) = i := (encodedLength i).1

theorem Instr.eq_of_opcode_of_bytes {i j : Instr} (ho : i.opcode = j.opcode) (hb : i.form.2.bytes = j.form.2.bytes) : i = j :=
  calc i = decodeOp i.opcode (i.form.2.bytes.getD 0 0) (i.form.2.bytes.getD 1 0) := (decodeOp_own i).symm
    _ = decodeOp j.opcode (j.form.2.bytes.getD 0 0) (j.form.2.bytes.getD 1 0) := by rw [ho, hb]
    _ = j := decodeOp_own j

/-- An opcode and bytes of which the instruction takes its own decode to it; the bytes it does not take do not matter. -/
theorem decodeOp_eq {i : Instr} {b1 b2 : Byte} (hb : [b1, b2].take (operandCount i.opcode) = i.form.2.bytes) :
    decodeOp i.opcode b1 b2 = i :=
  Instr.eq_of_opcode_of_bytes (decodeOp_opcode _ b1 b2) ((decodeOp_bytes _ b1 b2).trans hb)

theorem bytes_length (i : Instr) : i.form.2.bytes.length = operandCount i.opcode := by
  have h := congrArg List.length (decodeOp_bytes i.opcode (i.form.2.bytes.getD 0 0) (i.form.2.bytes.getD 1 0))
  rw [decodeOp_own, List.length_take] at h
  have := operandCount_le_two i.opcode
  simp only [List.length_cons, List.length_nil] at h
  omega

theorem form_mode (i : Instr) : (i.form.1, i.form.2.mode) = specRow i.opcode := by
  rw [← decodeOp_own i, decodeOp_form, decodeOp_opcode, Mode.operand_mode]

theorem opcode_eq_zero_iff (i : Instr) : i.opcode = 0x00 ↔ i = .brk := by
  constructor
  · intro h
    rw [← decodeOp_own i, h]
    rfl
  · rintro rfl
    rfl

theorem encode_of_ne_brk {i : Instr} (hi : i ≠ .brk) : encode i = i.opcode :: i.form.2.bytes := by
  unfold encode
  split
  · exact absurd rfl hi
  · rfl

/-! ### Lists of bytes -/

theorem instrLength_of_ne {op : Byte} (h : op ≠ 0x00) : instrLength op - 1 = operandCount op := by
  unfold instrLength
  rw [if_neg h]
  omega

theorem instrLength_le (op : Byte) : instrLength op - 1 ≤ 2 := by
  have := operandCount_le_two op
  unfold instrLength
  split <;> omega

theorem decode_of_le {op : Byte} {tail : List Byte} (h : instrLength op - 1 ≤ tail.length) :
    decode (op :: tail) = .ok (decodeOp op (tail.getD 0 0) (tail.getD 1 0), tail.drop (instrLength op - 1)) :=
  if_neg (by omega)

/-- What a list of bytes that decodes looks like. -/
theorem decode_cases {bytes : List Byte} {i : Instr} {rest : List Byte} (h : decode bytes = .ok (i, rest)) :
    ∃ op tail, bytes = op :: tail ∧ instrLength op - 1 ≤ tail.length ∧ i = decodeOp op (tail.getD 0 0) (tail.getD 1 0) ∧
      rest = tail.drop (instrLength op - 1) := by
  cases bytes with
  | nil => cases h
  | cons op tail =>
    by_cases hlen : instrLength op - 1 ≤ tail.length
    · rw [decode_of_le hlen] at h
      cases h
      exact ⟨op, tail, rfl, hlen, rfl, rfl⟩
    · rw [decode, if_pos (by omega)] at h
      cases h

/-- The operand bytes that the decoder looks at are the first ones of the tail. -/
theorem take_getD {n : Nat} {tail : List Byte} (hn : n ≤ 2) (hlen : n ≤ tail.length) :
    [tail.getD 0 0, tail.getD 1 0].take n = tail.take n := by
  match n, tail with
  | 0, _ => rfl
  | 1, _ :: _ => rfl
  | 2, _ :: _ :: _ => rfl

/-! ### The obligations -/

/-- Settles O2: the decoded instruction has the opcode and the operand bytes of `i`. -/
theorem decodeOfEncodeIsTheInstruction : Obligations.DecodeOfEncodeIsTheInstruction := by
  unfold Obligations.DecodeOfEncodeIsTheInstruction
  intro i rest
  by_cases hi : i = .brk
  · rw [hi]
    exact decode_of_le (op := 0x00) (tail := 0x00 :: rest) (Nat.le_add_left 1 _)
  · have hop : i.opcode ≠ 0x00 := fun h => hi ((opcode_eq_zero_iff i).mp h)
    have hcount := bytes_length i
    have hlen : operandCount i.opcode ≤ (i.form.2.bytes ++ rest).length := by
      rw [List.length_append]
      omega
    rw [encode_of_ne_brk hi, List.cons_append, decode_of_le (by rwa [instrLength_of_ne hop]), instrLength_of_ne hop,
      decodeOp_eq (by rw [take_getD (operandCount_le_two _) hlen, List.take_left' hcount]), List.drop_left' hcount]

/-- Settles O3: the first byte is the opcode of `i` and the next ones are its operand bytes; BRK has $00 and one byte that is not looked at. -/
theorem bytesDecodedAreTheEncoding : Obligations.BytesDecodedAreTheEncoding := by
  unfold Obligations.BytesDecodedAreTheEncoding
  intro bytes i rest h
  obtain ⟨op, tail, rfl, hlen, hi, rfl⟩ := decode_cases h
  have hop : i.opcode = op := hi ▸ decodeOp_opcode op _ _
  constructor
  · intro hbrk
    have hne : op ≠ 0x00 := fun h0 => hbrk ((opcode_eq_zero_iff i).mp (hop.trans h0))
    rw [instrLength_of_ne hne] at hlen ⊢
    have hbytes : i.form.2.bytes = tail.take (operandCount op) := by
      rw [hi, decodeOp_bytes, take_getD (operandCount_le_two op) hlen]
    rw [encode_of_ne_brk hbrk, hop, hbytes, List.cons_append, List.take_append_drop]
  · rintro rfl
    obtain rfl : op = 0x00 := hop.symm
    cases tail with
    | nil => exact absurd hlen (by decide)
    | cons p rest => exact ⟨p, rfl⟩

/-- R192 in R190's map. -/
theorem specRow_jam : ∀ op : Byte, (specRow op).1 = .JAM ↔ op ∈ jamOpcodes := by decide

/-- Settles O4, by the agreement of the decoder's map with R190's. -/
theorem everyOpcodeDecodes : Obligations.EveryOpcodeDecodes := by
  unfold Obligations.EveryOpcodeDecodes
  refine ⟨fun op b1 b2 rest => ?_, rfl, by decide, rfl, by decide, by decide⟩
  have hform := form_mode (decodeOp op b1 b2)
  rw [decodeOp_opcode] at hform
  have hmnemonic : (decodeOp op b1 b2).form.1 = (specRow op).1 := congrArg Prod.fst hform
  have hlen : instrLength op - 1 ≤ (b1 :: b2 :: rest).length := (instrLength_le op).trans (Nat.le_add_left 2 _)
  exact ⟨decodeOp op b1 b2, instrLength op - 1, decode_of_le hlen, instrLength_le op, decodeOp_opcode op b1 b2,
    (encodedLength _).2.2, hform, hmnemonic ▸ specRow_jam op⟩

/-- Settles O1: each word is decoded by evaluation. -/
theorem sampleWordsDecode : Obligations.SampleWordsDecode :=
  ⟨rfl, rfl, rfl, rfl, rfl, rfl, rfl, rfl, rfl, rfl, rfl, rfl, rfl, rfl, rfl, rfl, rfl, rfl⟩

end Sys2Proof

/-! SUPPORT. The fetch (30_encoding.md R173), the effective addresses as numbers (R178-R187) and the jumps. -/

namespace Sys2Proof.Machine

open Sys2Proof.Claims

/-! ### The fetch -/

theorem fetchByte_eq (s : State) :
    fetchByte s = ((memRead s.cpu.pc s).1, { (memRead s.cpu.pc s).2 with cpu := { s.cpu with pc := s.cpu.pc + 1 } }) := by
  unfold fetchByte setPc
  dsimp only
  rw [(memRead_frame s.cpu.pc s).cpu]

/-- A fetch from plain memory moves pc alone. -/
theorem fetchByte_of_peek {s : State} {b : Byte} (h : peek s.cpu.pc s = some b) : fetchByte s = (b, setPc (s.cpu.pc + 1) s) := by
  unfold fetchByte
  rw [memRead_of_peek h]

theorem policyRefuses_iff (op : Byte) (s : State) :
    policyRefuses op s = true ↔ s.undocPolicy = .refuse ∧ op ∈ undocumentedOpcodes := by
  unfold policyRefuses isUndocumented
  rw [Bool.and_eq_true, decide_eq_true_iff, List.contains_iff_mem]

/-- A step inside a running slice, the CPU not jammed and the opcode not refused, fetches the operands and runs the instruction. -/
theorem step_fetched {s : State} {k : SliceKind} {start : Nat} (hphase : s.orch.phase = .slice k start) (hrun : sliceRunning s = true)
    (hjam : s.run.jammed = false) (hpolicy : ¬ (s.undocPolicy = .refuse ∧ (fetchByte s).1 ∈ undocumentedOpcodes)) :
    step s = exec (fetchOperands (fetchByte s).1 (fetchByte s).2).1 (fetchOperands (fetchByte s).1 (fetchByte s).2).2 := by
  have hsame : (fetchByte s).2.undocPolicy = s.undocPolicy := (memRead_frame s.cpu.pc s).undocPolicy
  have haccept : policyRefuses (fetchByte s).1 (fetchByte s).2 ≠ true := by
    rw [Ne, policyRefuses_iff, hsame]
    exact hpolicy
  unfold step machineStep cpuStep
  rw [hphase, hjam]
  dsimp only
  rw [if_pos hrun, if_neg Bool.false_ne_true, if_neg haccept]

/-- Settles O6: each fetch is one bus read at pc and one step of pc, which the read leaves as it was. -/
theorem fetchReadsTheBus : Obligations.FetchReadsTheBus := by
  unfold Obligations.FetchReadsTheBus
  intro s k start hphase hrun hjam r0 s0 r1 s1 r2 s2 hpolicy
  have h0 : fetchByte s = (r0.1, s0) := fetchByte_eq s
  have h1 : fetchByte s0 = (r1.1, s1) := by
    rw [fetchByte_eq, show s0.cpu.pc + 1 = s.cpu.pc + 2 from BitVec.add_assoc s.cpu.pc 1 1]
  have h2 : fetchByte s1 = (r2.1, s2) := by
    rw [fetchByte_eq, show s1.cpu.pc + 1 = s.cpu.pc + 3 from BitVec.add_assoc s.cpu.pc 2 1]
  have hstep := step_fetched hphase hrun hjam (h0 ▸ hpolicy)
  rw [h0] at hstep
  unfold fetchOperands at hstep
  refine ⟨fun hc => ?_, fun hc => ?_, fun hc => ?_, operandCount_le_two r0.1, rfl⟩
  all_goals rw [hc] at hstep
  · exact hstep
  · simpa only [fetchBytes, h1, List.getD_cons_zero, List.getD_cons_succ, List.getD_nil] using hstep
  · simpa only [fetchBytes, h1, h2, List.getD_cons_zero, List.getD_cons_succ] using hstep

theorem fetchBytes_of_peek {s : State} {b1 b2 : Byte} {n : Nat} (hn : n ≤ 2) (h1 : peek s.cpu.pc s = some b1)
    (h2 : peek (s.cpu.pc + 1) s = some b2) : fetchBytes n s = ([b1, b2].take n, setPc (s.cpu.pc + BitVec.ofNat 16 n) s) := by
  have hfetch1 : fetchByte s = (b1, setPc (s.cpu.pc + 1) s) := fetchByte_of_peek h1
  have hfetch2 : fetchByte (setPc (s.cpu.pc + 1) s) = (b2, setPc (s.cpu.pc + 1 + 1) s) := fetchByte_of_peek h2
  match n with
  | 0 =>
    rw [BitVec.add_zero]
    rfl
  | 1 =>
    simp only [fetchBytes, hfetch1]
    rfl
  | 2 =>
    simp only [fetchBytes, hfetch1, hfetch2, BitVec.add_assoc]
    rfl

/-- The fetch from plain memory decodes the bytes that lie there, and moves pc past those that the instruction takes. -/
theorem fetchOperands_of_peek {s : State} {b1 b2 : Byte} (op : Byte) (h1 : peek s.cpu.pc s = some b1)
    (h2 : peek (s.cpu.pc + 1) s = some b2) :
    fetchOperands op s = (decodeOp op b1 b2, setPc (s.cpu.pc + BitVec.ofNat 16 (operandCount op)) s) := by
  have hcount := operandCount_le_two op
  have hlen : operandCount op ≤ ([b1, b2].take (operandCount op)).length := by
    rw [List.length_take]
    exact Nat.le_min.mpr ⟨Nat.le_refl _, hcount⟩
  unfold fetchOperands
  rw [fetchBytes_of_peek hcount h1 h2]
  refine Prod.ext (Instr.eq_of_opcode_of_bytes ?_ ?_) rfl
  · rw [decodeOp_opcode, decodeOp_opcode]
  · rw [decodeOp_bytes, decodeOp_bytes, take_getD hcount hlen, List.take_take, Nat.min_self]

/-- Settles O5: fetches from plain memory move pc alone, and the bytes at pc decode to what the fetch decodes. -/
theorem stepRunsTheDecodedInstruction : Obligations.StepRunsTheDecodedInstruction := by
  unfold Obligations.StepRunsTheDecodedInstruction
  intro s k start b0 b1 b2 i rest hphase hrun hjam h0 h1 h2 hdecode hpolicy
  obtain ⟨op, tail, hbytes, -, hi, -⟩ := decode_cases hdecode
  obtain ⟨rfl, rfl⟩ := List.cons.inj hbytes
  have hop : i.opcode = b0 := hi ▸ decodeOp_opcode b0 _ _
  have hfetch : fetchByte s = (b0, setPc (s.cpu.pc + 1) s) := fetchByte_of_peek h0
  have hnext : s.cpu.pc + 1 + 1 = s.cpu.pc + 2 := BitVec.add_assoc s.cpu.pc 1 1
  have hoperands := fetchOperands_of_peek (s := setPc (s.cpu.pc + 1) s) b0 h1 (b2 := b2) (by rw [setPc_pc, hnext]; exact h2)
  rw [step_fetched hphase hrun hjam (hfetch ▸ hpolicy), hfetch, hoperands, bytes_length, hop, hi]
  rfl

/-! ### Effective addresses -/

theorem hiByte_toNat (a : Addr) : (hiByte a).toNat = a.toNat / 256 := by
  unfold hiByte
  rw [BitVec.extractLsb'_toNat, Nat.shiftRight_eq_div_pow]
  have := a.isLt
  omega

theorem indexedEffective_addr (base : Addr) (i : Byte) : (indexedEffective base i).addr.toNat = (base.toNat + i.toNat) % 65536 := by
  unfold indexedEffective
  rw [BitVec.toNat_add, zext_toNat]

/-- Indexing crosses a page exactly where the high byte of the address changes (R182). -/
theorem indexedEffective_crossed (base : Addr) (i : Byte) :
    (indexedEffective base i).crossed = true ↔ base.toNat / 256 ≠ (base.toNat + i.toNat) % 65536 / 256 := by
  unfold indexedEffective
  rw [decide_eq_true_iff, Ne, ← BitVec.toNat_inj, hiByte_toNat, hiByte_toNat, BitVec.toNat_add, zext_toNat]

theorem indexedEffective_spec {b : Addr} {base : Nat} (hb : b.toNat = base) (i : Byte) :
    (indexedEffective b i).base.toNat = base ∧ (indexedEffective b i).addr.toNat = (base + i.toNat) % 65536 ∧
      ((indexedEffective b i).crossed = true ↔ base / 256 ≠ (base + i.toNat) % 65536 / 256) :=
  hb ▸ ⟨rfl, indexedEffective_addr b i, indexedEffective_crossed b i⟩

/-- A pointer in page zero as a number, with both of its bytes' addresses wrapping (R183-R185). -/
theorem zpRead16_toNat (z : Byte) (s : State) :
    (zpRead16 z s).1.toNat = 256 * (s.mem.ram.read ((z.toNat + 1) % 256)).toNat + (s.mem.ram.read (z.toNat % 256)).toNat := by
  rw [zpRead16_eq, mkAddr_toNat, BitVec.toNat_add, Nat.mod_eq_of_lt z.isLt]
  rfl

/-- Settles O35: the modes' sums as numbers, and the load lemmas of Laws/Ops.lean. -/
theorem effectiveAddressesAndLoads : Obligations.EffectiveAddressesAndLoads := by
  unfold Obligations.EffectiveAddressesAndLoads
  intro s z l h cell crosses plain
  refine ⟨⟨zext_toNat z, rfl⟩, ⟨?_, rfl⟩, ⟨?_, rfl⟩, ⟨mkAddr_toNat h l, rfl⟩, indexedEffective_spec (mkAddr_toNat h l) _,
    indexedEffective_spec (mkAddr_toNat h l) _, ⟨?_, rfl⟩, indexedEffective_spec (zpRead16_toNat z s) _, fun o => ⟨effAddr_state o s, ?_⟩⟩
  · exact (zext_toNat _).trans (BitVec.toNat_add z s.cpu.x)
  · exact (zext_toNat _).trans (BitVec.toNat_add z s.cpu.y)
  · refine (zpRead16_toNat (z + s.cpu.x) s).trans ?_
    rw [BitVec.toNat_add]
    simp [cell]
  · refine ⟨?_, ?_, fun hi ha => loadOperand_mem hi ha s, loadOperand_frame o s, (loadOperand_frame o s).sameBytes⟩
    · rintro v rfl
      rfl
    · rintro rfl
      rfl

/-! ### Jumps -/

/-- The opcodes of JMP in R190's map. -/
theorem specRow_jmp : ∀ op : Byte, (specRow op).1 = .JMP → op = 0x4C ∨ op = 0x6C := by decide

theorem form_jmp {i : Instr} {o : Operand} (h : i.form = (.JMP, o)) :
    (∃ l h, i = .jmpAbs l h ∧ o = .abs l h) ∨ ∃ l h, i = .jmpInd l h ∧ o = .ind l h := by
  have hrow : (specRow i.opcode).1 = .JMP := (congrArg Prod.fst (form_mode i)).symm.trans (congrArg Prod.fst h)
  have hown := decodeOp_own i
  rw [← hown] at h
  rcases specRow_jmp _ hrow with hop | hop
  all_goals rw [hop] at hown h
  · exact .inl ⟨_, _, hown.symm, (congrArg Prod.snd h).symm⟩
  · exact .inr ⟨_, _, hown.symm, (congrArg Prod.snd h).symm⟩

/-- The read frame, when the registers and the run state are set alike on both sides. -/
theorem ReadFrame.withCpuRun {s t : State} (h : ReadFrame s t) (c : Cpu) (r : Run) :
    ReadFrame { s with cpu := c, run := r } { t with cpu := c, run := r } :=
  ⟨rfl, rfl, h.pages, h.mem, h.ppu, h.apu, h.cart, h.mmc1, h.mmc3, h.orch, h.fiq, h.host, h.undocPolicy, h.fiqRestart⟩

/-- The end of an instruction that has only read and that sets pc. -/
theorem ReadFrame.finish_setPc {s t : State} (h : ReadFrame s t) (cost : Nat) (v : Addr) :
    finish cost (setPc v t) = .next { t with cpu := { s.cpu with pc := v }, run := charged cost s } := by
  unfold finish charge setPc charged
  rw [h.cpu, h.run]

/-- Settles O25: the pointer reads of JMP indirect are bus reads, and nothing else touches memory. -/
theorem jumps : Obligations.Jumps := by
  unfold Obligations.Jumps
  intro i o s hform
  rcases form_jmp hform with ⟨l, h, rfl, rfl⟩ | ⟨l, h, rfl, rfl⟩
  · exact .inl ⟨l, h, rfl, rfl⟩
  · refine .inr ⟨l, h, rfl, ?_⟩
    intro lo hi t
    have hread : ReadFrame s hi.2 := (memRead_frame _ s).trans (memRead_frame _ lo.2)
    exact ⟨hread.finish_setPc 5 (hi.1 ++ lo.1), hread.withCpuRun t.cpu t.run, fun b => peek_congr hread.pages hread.mem b⟩

end Sys2Proof.Machine

/-! SUPPORT. The shapes of instructions (30_encoding.md R188, R189): what every mnemonic of a shape shares, so that a mnemonic needs only its
own meaning. Loads, stores and transfers by them (40_load_store_transfer.md R210-R221). -/

namespace Sys2Proof.Machine

open Sys2Proof.Claims

/-! ### Reading and storing instructions -/

/-- The end of an instruction that has only read and that sets registers. -/
theorem ReadFrame.charge_withCpu {s t : State} (h : ReadFrame s t) (k : Nat) (c : Cpu → Cpu) :
    charge k { t with cpu := c t.cpu } = { t with cpu := c s.cpu, run := charged k s } := by
  unfold charge charged
  rw [h.cpu, h.run]

/-- A mnemonic whose forms are reading instructions, with an effect on the registers alone. -/
theorem reads_of_readInstr {m : Mnemonic} {effect : Byte → State → State} {c : Byte → Cpu → Cpu}
    (hexec : ∀ i o s, i.form = (m, o) → exec i s = readInstr o (readCycles o.mode) effect s)
    (heffect : ∀ v s, effect v s = { s with cpu := c v s.cpu }) : Reads m c := by
  intro i o s hform r t
  have hread : ReadFrame s r.2 := loadOperand_frame o s
  refine ⟨?_, hread.withCpuRun t.cpu t.run, fun b => peek_congr hread.pages hread.mem b⟩
  rw [hexec i o s hform, readInstr_eq, heffect, hread.charge_withCpu]
  rfl

theorem memWrite_storesAt (a : Addr) (v : Byte) (s : State) : StoresAt a v s (memWrite a v s) :=
  ⟨memWrite_storeFrame a v s, fun hplain hwf => memWrite_plain_peek hplain hwf v⟩

/-- A mnemonic whose forms are storing instructions of a byte of the registers. -/
theorem stores_of_storeInstr {m : Mnemonic} {v : Cpu → Byte}
    (hexec : ∀ i o s, i.form = (m, o) → exec i s = storeInstr o (storeCycles o.mode) (v s.cpu) s) : Stores m v := by
  intro i o s hform a t
  refine ⟨?_, (memWrite_frame a (v s.cpu) s).cpu, memWrite_storesAt a (v s.cpu) s⟩
  rw [hexec i o s hform, storeInstr_eq]
  rfl

/-! ### Loads and stores with the cycles of R190 -/

theorem exec_lda (i : Instr) (o : Operand) (s : State) (h : i.form = (.LDA, o)) : exec i s = lda o (readCycles o.mode) s := by
  cases i with
  | ldaIzx | ldaZp | ldaImm | ldaAbs | ldaIzy | ldaZpx | ldaAbsy | ldaAbsx => cases h; rfl
  | _ => cases h

theorem exec_ldx (i : Instr) (o : Operand) (s : State) (h : i.form = (.LDX, o)) : exec i s = ldx o (readCycles o.mode) s := by
  cases i with
  | ldxImm | ldxZp | ldxAbs | ldxZpy | ldxAbsy => cases h; rfl
  | _ => cases h

theorem exec_ldy (i : Instr) (o : Operand) (s : State) (h : i.form = (.LDY, o)) : exec i s = ldy o (readCycles o.mode) s := by
  cases i with
  | ldyImm | ldyZp | ldyAbs | ldyZpx | ldyAbsx => cases h; rfl
  | _ => cases h

theorem exec_sta (i : Instr) (o : Operand) (s : State) (h : i.form = (.STA, o)) : exec i s = sta o (storeCycles o.mode) s := by
  cases i with
  | staIzx | staZp | staAbs | staIzy | staZpx | staAbsy | staAbsx => cases h; rfl
  | _ => cases h

theorem exec_stx (i : Instr) (o : Operand) (s : State) (h : i.form = (.STX, o)) : exec i s = stx o (storeCycles o.mode) s := by
  cases i with
  | stxZp | stxAbs | stxZpy => cases h; rfl
  | _ => cases h

theorem exec_sty (i : Instr) (o : Operand) (s : State) (h : i.form = (.STY, o)) : exec i s = sty o (storeCycles o.mode) s := by
  cases i with
  | styZp | styAbs | styZpx => cases h; rfl
  | _ => cases h

/-- Settles O16: the loads are reading instructions that set a register with N and Z, the stores write the bus at the effective address. -/
theorem loadsAndStores : Obligations.LoadsAndStores := by
  unfold Obligations.LoadsAndStores
  refine ⟨reads_of_readInstr exec_lda ?_, reads_of_readInstr exec_ldx ?_, reads_of_readInstr exec_ldy ?_,
    stores_of_storeInstr exec_sta, stores_of_storeInstr exec_stx, stores_of_storeInstr exec_sty⟩
  all_goals exact fun _ _ => rfl

/-! ### Instructions on registers alone -/

/-- A form that only one opcode of R190's map has is the form of one instruction. -/
theorem instr_eq_of_form {i j : Instr} (hop : ∀ op : Byte, specRow op = (j.form.1, j.form.2.mode) → op = j.opcode)
    (h : i.form = j.form) : i = j :=
  Instr.eq_of_opcode_of_bytes (hop _ (by rw [← h, form_mode])) (by rw [h])

/-- A mnemonic with one implied opcode in R190's map, by the meaning of its instruction `j`. -/
theorem registerOnly_of_exec {m : Mnemonic} {c : Cpu → Cpu} (j : Instr) (hform : j.form = (m, .imp))
    (hop : ∀ op : Byte, specRow op = (m, .imp) → op = j.opcode)
    (hexec : ∀ s, exec j s = .next { s with cpu := c s.cpu, run := charged 2 s }) : RegisterOnly m c := by
  intro i s h
  have hij : i = j := instr_eq_of_form (hform ▸ hop) (h.trans hform.symm)
  rw [hij, hexec]

/-- Settles O17: each mnemonic has one opcode, and its instruction sets its register, N and Z and the time, TXS no flag. -/
theorem transfersAndIndexSteps : Obligations.TransfersAndIndexSteps := by
  unfold Obligations.TransfersAndIndexSteps
  exact ⟨registerOnly_of_exec .tax rfl (by decide) fun _ => rfl,
    registerOnly_of_exec .tay rfl (by decide) fun _ => rfl,
    registerOnly_of_exec .txa rfl (by decide) fun _ => rfl,
    registerOnly_of_exec .tya rfl (by decide) fun _ => rfl,
    registerOnly_of_exec .tsx rfl (by decide) fun _ => rfl,
    registerOnly_of_exec .txs rfl (by decide) fun _ => rfl,
    registerOnly_of_exec .inx rfl (by decide) fun _ => rfl,
    registerOnly_of_exec .iny rfl (by decide) fun _ => rfl,
    registerOnly_of_exec .dex rfl (by decide) fun _ => rfl,
    registerOnly_of_exec .dey rfl (by decide) fun _ => rfl⟩

end Sys2Proof.Machine

/-! SUPPORT. Arithmetic and logic by the shapes of instructions (41_arith_logic.md R230-R249): ADC, SBC, the logic instructions, the
compares and BIT are reading instructions; INC and DEC read, change and write the byte at their address. -/

namespace Sys2Proof.Machine

open Sys2Proof.Claims

/-! ### Binary addition and subtraction as numbers -/

/-- A signed byte by its unsigned value. -/
theorem byte_toInt (v : Byte) : v.toInt = if v.toNat < 128 then (v.toNat : Int) else v.toNat - 256 := by
  rw [BitVec.toInt_eq_toNat_cond]
  split <;> split <;> omega

/-- Bit 7 of a byte is its sign. -/
theorem byte_sign (v : Byte) : v.getLsbD 7 = decide (128 ≤ v.toNat) := BitVec.getLsbD_last v

/-- A carry adds at most 1. -/
theorem one_le (c : Bool) : one c ≤ 1 := by cases c <;> decide

/-- V of `AddBin` (R230): the addends agree in sign and the sum's byte does not, exactly when the signed sum leaves the signed bytes. -/
theorem addBin_overflow (a m : Byte) (c : Bool) :
    (~~~(a ^^^ m) &&& (a ^^^ BitVec.ofNat 8 (a.toNat + m.toNat + one c))).getLsbD 7 =
      decide (a.toInt + m.toInt + one c < -128 ∨ 127 < a.toInt + m.toInt + one c) := by
  have ha := a.isLt
  have hm := m.isLt
  have hc := one_le c
  rw [BitVec.getLsbD_and, BitVec.getLsbD_not, BitVec.getLsbD_xor, BitVec.getLsbD_xor, byte_sign, byte_sign, byte_sign,
    BitVec.toNat_ofNat, byte_toInt, byte_toInt, Bool.eq_iff_iff]
  simp only [Nat.reduceLT, decide_true, Bool.true_and, Bool.and_eq_true, Bool.not_eq_true', bne_eq_false_iff_eq, bne_iff_ne,
    ne_eq, decide_eq_decide, decide_eq_true_eq]
  split <;> split <;> omega

/-- `AddBin` is the addition of numbers (R230). -/
theorem addBin_eq_added (m : Byte) (c : Cpu) : { c with a := (addBin c.a m c.f).1, f := (addBin c.a m c.f).2 } = added m c := by
  have hv := addBin_overflow c.a m c.f.c
  unfold added addBin Flags.setNZ
  dsimp only
  rw [← hv]
  rfl

/-- Subtraction of numbers is addition of the complement, as `SubBin` has it (R232). -/
theorem added_complement (m : Byte) (c : Cpu) : added (m ^^^ 0xFF) c = subtracted m c := by
  have hm := m.isLt
  have hnat : (m ^^^ 0xFF).toNat = 255 - m.toNat := by
    rw [show m ^^^ 0xFF = ~~~m from BitVec.xor_allOnes, BitVec.toNat_not]
  have hint : (m ^^^ 0xFF).toInt = -m.toInt - 1 := by
    rw [byte_toInt, byte_toInt, hnat]
    split <;> split <;> omega
  have hbyte : BitVec.ofNat 8 (c.a.toNat + (m ^^^ 0xFF).toNat + one c.f.c) =
      BitVec.ofInt 8 ((c.a.toNat : Int) - m.toNat - (1 - one c.f.c)) := by
    apply BitVec.eq_of_toNat_eq
    rw [BitVec.toNat_ofNat, BitVec.toNat_ofInt, hnat]
    omega
  have hcarry : 255 < c.a.toNat + (m ^^^ 0xFF).toNat + one c.f.c ↔ 0 ≤ (c.a.toNat : Int) - m.toNat - (1 - one c.f.c) := by
    omega
  have hsigned : c.a.toInt + (m ^^^ 0xFF).toInt + one c.f.c = c.a.toInt - m.toInt - (1 - one c.f.c) := by omega
  unfold added subtracted
  simp only [hbyte, hcarry, hsigned]

/-- The difference of two bytes is that of their values, modulo 256. -/
theorem ofInt_toNat_sub_toNat (r m : Byte) : BitVec.ofInt 8 ((r.toNat : Int) - m.toNat) = r - m := by
  apply BitVec.eq_of_toNat_eq
  rw [BitVec.toNat_ofInt, BitVec.toNat_sub]
  omega

/-- `Compare` (R234). -/
theorem compareOp_eq_compared (r m : Byte) (f : Flags) : compareOp r m f = compared r m f := by
  unfold compared
  rw [ofInt_toNat_sub_toNat]
  rfl

/-! ### ADC and SBC -/

/-- A mnemonic whose forms set A and the flags by `op`, whose meaning on the registers is `c`. -/
theorem reads_of_arithInstr {m : Mnemonic} {op : Byte → Byte → Flags → Byte × Flags} {c : Byte → Cpu → Cpu}
    (hexec : ∀ i o s, i.form = (m, o) → exec i s = arithInstr op o (readCycles o.mode) s)
    (hop : ∀ v r, { r with a := (op r.a v r.f).1, f := (op r.a v r.f).2 } = c v r) : Reads m c :=
  reads_of_readInstr hexec fun v s => congrArg (fun r => { s with cpu := r }) (hop v s.cpu)

theorem exec_adc (i : Instr) (o : Operand) (s : State) (h : i.form = (.ADC, o)) : exec i s = adc o (readCycles o.mode) s := by
  cases i with
  | adcIzx | adcZp | adcImm | adcAbs | adcIzy | adcZpx | adcAbsy | adcAbsx => cases h; rfl
  | _ => cases h

theorem exec_sbc (i : Instr) (o : Operand) (s : State) (h : i.form = (.SBC, o)) : exec i s = sbc o (readCycles o.mode) s := by
  cases i with
  | sbcIzx | sbcZp | sbcImm | sbcImmEB | sbcAbs | sbcIzy | sbcZpx | sbcAbsy | sbcAbsx => cases h; rfl
  | _ => cases h

/-- Settles O18: `DECIMAL_MODE` is false, so ADC is `AddBin`, which adds numbers. -/
theorem addWithCarry : Obligations.AddWithCarry := reads_of_arithInstr exec_adc addBin_eq_added

/-- Settles O19: SBC is `AddBin` of the complement, which subtracts numbers. -/
theorem subtractWithBorrow : Obligations.SubtractWithBorrow :=
  reads_of_arithInstr exec_sbc fun m c => (addBin_eq_added (m ^^^ 0xFF) c).trans (added_complement m c)

/-! ### Logic -/

/-- A mnemonic whose forms set A by `op`, with N and Z of it. -/
theorem reads_of_logicInstr {m : Mnemonic} {op : Byte → Byte → Byte}
    (hexec : ∀ i o s, i.form = (m, o) → exec i s = logicInstr op o (readCycles o.mode) s) :
    Reads m (fun v c => { c with a := op c.a v, f := nz c.f (op c.a v) }) :=
  reads_of_readInstr hexec fun _ _ => rfl

theorem exec_and (i : Instr) (o : Operand) (s : State) (h : i.form = (.AND, o)) : exec i s = and o (readCycles o.mode) s := by
  cases i with
  | andIzx | andZp | andImm | andAbs | andIzy | andZpx | andAbsy | andAbsx => cases h; rfl
  | _ => cases h

theorem exec_ora (i : Instr) (o : Operand) (s : State) (h : i.form = (.ORA, o)) : exec i s = ora o (readCycles o.mode) s := by
  cases i with
  | oraIzx | oraZp | oraImm | oraAbs | oraIzy | oraZpx | oraAbsy | oraAbsx => cases h; rfl
  | _ => cases h

theorem exec_eor (i : Instr) (o : Operand) (s : State) (h : i.form = (.EOR, o)) : exec i s = eor o (readCycles o.mode) s := by
  cases i with
  | eorIzx | eorZp | eorImm | eorAbs | eorIzy | eorZpx | eorAbsy | eorAbsx => cases h; rfl
  | _ => cases h

/-- Settles O20: the logic instructions are reading instructions that set A with N and Z. -/
theorem logicInstructions : Obligations.LogicInstructions := by
  unfold Obligations.LogicInstructions
  exact ⟨reads_of_logicInstr exec_and, reads_of_logicInstr exec_ora, reads_of_logicInstr exec_eor⟩

/-! ### Compares and BIT -/

theorem exec_cmp (i : Instr) (o : Operand) (s : State) (h : i.form = (.CMP, o)) : exec i s = cmp o (readCycles o.mode) s := by
  cases i with
  | cmpIzx | cmpZp | cmpImm | cmpAbs | cmpIzy | cmpZpx | cmpAbsy | cmpAbsx => cases h; rfl
  | _ => cases h

theorem exec_cpx (i : Instr) (o : Operand) (s : State) (h : i.form = (.CPX, o)) : exec i s = cpx o (readCycles o.mode) s := by
  cases i with
  | cpxImm | cpxZp | cpxAbs => cases h; rfl
  | _ => cases h

theorem exec_cpy (i : Instr) (o : Operand) (s : State) (h : i.form = (.CPY, o)) : exec i s = cpy o (readCycles o.mode) s := by
  cases i with
  | cpyImm | cpyZp | cpyAbs => cases h; rfl
  | _ => cases h

theorem exec_bit (i : Instr) (o : Operand) (s : State) (h : i.form = (.BIT, o)) : exec i s = bit o (readCycles o.mode) s := by
  cases i with
  | bitZp | bitAbs => cases h; rfl
  | _ => cases h

/-- A compare may take its register after the operand load, which changes none. -/
theorem compareInstr_eq_readInstr (reg : Cpu → Byte) (o : Operand) (base : Nat) (s : State) :
    compareInstr (reg s.cpu) o base s =
      readInstr o base (fun m t => setFlags (compareOp (reg t.cpu) m t.cpu.f) t) s := by
  unfold compareInstr
  rw [readInstr_eq, readInstr_eq, (loadOperand_frame o s).cpu]

/-- A mnemonic whose forms compare the register `reg` with their operand. -/
theorem reads_of_compareInstr {m : Mnemonic} {reg : Cpu → Byte}
    (hexec : ∀ i o s, i.form = (m, o) → exec i s = compareInstr (reg s.cpu) o (readCycles o.mode) s) :
    Reads m (fun v c => { c with f := compared (reg c) v c.f }) :=
  reads_of_readInstr (fun i o s h => (hexec i o s h).trans (compareInstr_eq_readInstr reg o _ s)) fun v s =>
    congrArg (fun f => setFlags f s) (compareOp_eq_compared (reg s.cpu) v s.cpu.f)

/-- Settles O21: a compare sets the flags of the difference, BIT those of the operand, and neither a register. -/
theorem compareAndBitTest : Obligations.CompareAndBitTest := by
  unfold Obligations.CompareAndBitTest
  exact ⟨reads_of_compareInstr (reg := Cpu.a) exec_cmp, reads_of_compareInstr (reg := Cpu.x) exec_cpx,
    reads_of_compareInstr (reg := Cpu.y) exec_cpy, reads_of_readInstr exec_bit fun _ _ => rfl⟩

/-! ### Read-modify-write instructions -/

/-- What a store does depends on the page table, the memories and the mapper, which bus reads leave. -/
theorem storesAt_of_readFrame {s u t : State} {a : Addr} {v : Byte} (hread : ReadFrame s u) (h : StoresAt a v u t) : StoresAt a v s t := by
  have hpeek : ∀ b, peek b u = peek b s := hread.sameBytes
  have hlocate : ∀ b, locate b u = locate b s := locate_congr hread.pages
  have hplain : plainStore a u = plainStore a s := by
    unfold plainStore pageLoc
    rw [hread.pages, hread.cart]
  obtain ⟨⟨hbytes, hother, hprg⟩, hstored⟩ := h
  simp only [hpeek, hlocate, hplain, hread.mem] at hbytes hother hprg hstored
  exact ⟨⟨hbytes, hother, hprg⟩, hstored⟩

/-- A mnemonic whose memory forms read, change and write a byte, with an effect of the byte written on the registers alone. -/
theorem modifies_of_rmwThenInstr {m : Mnemonic} {f : Byte → Flags → Byte × Flags} {effect : Byte → State → State}
    {g : Byte → Cpu → Cpu}
    (hexec : ∀ i o s, i.form = (m, o) → o ≠ .acc → exec i s = rmwThenInstr o (rmwCycles o.mode) f effect s)
    (heffect : ∀ v s, effect v s = { s with cpu := g v s.cpu }) : Modifies m f g := by
  intro i o s hform hacc a x r t
  have hread : ReadFrame s x.2 := memRead_frame a s
  have hcpu : (memWrite a r.1 x.2).cpu = s.cpu := (memWrite_frame a r.1 x.2).cpu.trans hread.cpu
  refine ⟨?_, storesAt_of_readFrame hread (memWrite_storesAt a r.1 x.2)⟩
  rw [hexec i o s hform hacc]
  unfold rmwThenInstr
  dsimp only
  rw [rmwOperand_mem hacc, heffect]
  unfold setFlags
  rw [hcpu]
  rfl

/-- A mnemonic whose memory forms read, change and write a byte, and change no register but the flags. -/
theorem modifies_of_rmwInstr {m : Mnemonic} {f : Byte → Flags → Byte × Flags}
    (hexec : ∀ i o s, i.form = (m, o) → o ≠ .acc → exec i s = rmwInstr o (rmwCycles o.mode) f s) : Modifies m f (fun _ c => c) :=
  modifies_of_rmwThenInstr (effect := fun _ s => s) hexec fun _ _ => rfl

theorem exec_inc (i : Instr) (o : Operand) (s : State) (h : i.form = (.INC, o)) : exec i s = rmwInstr o (rmwCycles o.mode) incOp s := by
  cases i with
  | incZp | incAbs | incZpx | incAbsx => cases h; rfl
  | _ => cases h

theorem exec_dec (i : Instr) (o : Operand) (s : State) (h : i.form = (.DEC, o)) : exec i s = rmwInstr o (rmwCycles o.mode) decOp s := by
  cases i with
  | decZp | decAbs | decZpx | decAbsx => cases h; rfl
  | _ => cases h

/-- Settles O22: one read, the step with N and Z, and one write at the effective address. -/
theorem incrementAndDecrementMemory : Obligations.IncrementAndDecrementMemory := by
  unfold Obligations.IncrementAndDecrementMemory
  exact ⟨modifies_of_rmwInstr fun i o s h _ => exec_inc i o s h, modifies_of_rmwInstr fun i o s h _ => exec_dec i o s h⟩

end Sys2Proof.Machine

/-! SUPPORT. Shifts and rotates by the shape of read-modify-write instructions (42_shift_rotate.md R260-R263). -/

namespace Sys2Proof.Machine

open Sys2Proof.Claims

/-! ### A shift by one place as a number -/

/-- A bit shifted to a position, as a number. -/
theorem bitAt_eq_ofNat (c : Bool) (k : Nat) : bitAt c k = BitVec.ofNat 8 (one c <<< k) := by
  cases c
  · rw [show one false = 0 from rfl, Nat.zero_shiftLeft]
    rfl
  · apply BitVec.eq_of_toNat_eq
    exact BitVec.toNat_shiftLeft

/-- To the left: the bit that comes in stands below the shifted byte. -/
theorem shiftLeft_or_bitAt (x : Byte) (c : Bool) : x <<< 1 ||| bitAt c 0 = BitVec.ofNat 8 (2 * x.toNat + one c) := by
  have hin : one c < 2 ^ 1 := Nat.lt_succ_of_le (one_le c)
  have hx : x <<< 1 = BitVec.ofNat 8 (x.toNat <<< 1) := BitVec.eq_of_toNat_eq BitVec.toNat_shiftLeft
  calc x <<< 1 ||| bitAt c 0
      = BitVec.ofNat 8 (x.toNat <<< 1 ||| one c) := by rw [BitVec.ofNat_or, hx, bitAt_eq_ofNat, Nat.shiftLeft_zero]
    _ = BitVec.ofNat 8 (2 * x.toNat + one c) := by
      rw [← Nat.shiftLeft_add_eq_or_of_lt hin, Nat.shiftLeft_eq, Nat.pow_one, Nat.mul_comm]

/-- To the right: the bit that comes in stands above the shifted byte. -/
theorem bitAt_or_shiftRight (x : Byte) (c : Bool) : bitAt c 7 ||| x >>> 1 = BitVec.ofNat 8 (128 * one c + x.toNat / 2) := by
  have hlow : x.toNat / 2 < 2 ^ 7 := by omega
  have hx : x >>> 1 = BitVec.ofNat 8 (x.toNat / 2) := by
    apply BitVec.eq_of_toNat_eq
    rw [BitVec.toNat_ushiftRight, Nat.shiftRight_eq_div_pow, BitVec.toNat_ofNat]
    omega
  calc bitAt c 7 ||| x >>> 1
      = BitVec.ofNat 8 (one c <<< 7 ||| x.toNat / 2) := by rw [BitVec.ofNat_or, hx, bitAt_eq_ofNat]
    _ = BitVec.ofNat 8 (128 * one c + x.toNat / 2) := by
      rw [← Nat.shiftLeft_add_eq_or_of_lt hlow, Nat.shiftLeft_eq, Nat.mul_comm]

/-! ### The four operations -/

theorem rolOp_eq (x : Byte) (f : Flags) : rolOp x f = withNZ (shiftedLeft f.c x f) := by
  unfold rolOp
  rw [shiftLeft_or_bitAt]
  rfl

theorem rorOp_eq (x : Byte) (f : Flags) : rorOp x f = withNZ (shiftedRight f.c x f) := by
  unfold rorOp
  rw [bitAt_or_shiftRight]
  rfl

/-- ASL is ROL with C clear. -/
theorem aslOp_eq (x : Byte) (f : Flags) : aslOp x f = withNZ (shiftedLeft false x f) := by
  have hx : x <<< 1 = BitVec.ofNat 8 (2 * x.toNat + one false) := (BitVec.or_zero).symm.trans (shiftLeft_or_bitAt x false)
  unfold aslOp
  rw [hx]
  rfl

/-- LSR is ROR with C clear. -/
theorem lsrOp_eq (x : Byte) (f : Flags) : lsrOp x f = withNZ (shiftedRight false x f) := by
  have hx : x >>> 1 = BitVec.ofNat 8 (128 * one false + x.toNat / 2) := (BitVec.zero_or).symm.trans (bitAt_or_shiftRight x false)
  unfold lsrOp
  rw [hx]
  rfl

/-! ### ASL, LSR, ROL and ROR -/

/-- A mnemonic whose forms, in memory and on A, are read-modify-write instructions by `op`, whose meaning is `f`. -/
theorem modifies_and_modifiesA_of_rmwInstr {m : Mnemonic} {op f : Byte → Flags → Byte × Flags}
    (hexec : ∀ i o s, i.form = (m, o) → exec i s = rmwInstr o (rmwCycles o.mode) op s) (hop : ∀ x c, op x c = f x c) :
    Modifies m f (fun _ c => c) ∧ ModifiesA m f := by
  obtain rfl : op = f := funext₂ hop
  exact ⟨modifies_of_rmwInstr fun i o s h _ => hexec i o s h, fun i s h => hexec i .acc s h⟩

theorem exec_asl (i : Instr) (o : Operand) (s : State) (h : i.form = (.ASL, o)) : exec i s = rmwInstr o (rmwCycles o.mode) aslOp s := by
  cases i with
  | aslZp | aslAcc | aslAbs | aslZpx | aslAbsx => cases h; rfl
  | _ => cases h

theorem exec_lsr (i : Instr) (o : Operand) (s : State) (h : i.form = (.LSR, o)) : exec i s = rmwInstr o (rmwCycles o.mode) lsrOp s := by
  cases i with
  | lsrZp | lsrAcc | lsrAbs | lsrZpx | lsrAbsx => cases h; rfl
  | _ => cases h

theorem exec_rol (i : Instr) (o : Operand) (s : State) (h : i.form = (.ROL, o)) : exec i s = rmwInstr o (rmwCycles o.mode) rolOp s := by
  cases i with
  | rolZp | rolAcc | rolAbs | rolZpx | rolAbsx => cases h; rfl
  | _ => cases h

theorem exec_ror (i : Instr) (o : Operand) (s : State) (h : i.form = (.ROR, o)) : exec i s = rmwInstr o (rmwCycles o.mode) rorOp s := by
  cases i with
  | rorZp | rorAcc | rorAbs | rorZpx | rorAbsx => cases h; rfl
  | _ => cases h

/-- Settles O23: each mnemonic's forms are read-modify-write instructions, whose operation shifts the number by one place. -/
theorem shiftsAndRotates : Obligations.ShiftsAndRotates := by
  unfold Obligations.ShiftsAndRotates
  obtain ⟨hasl, haslA⟩ := modifies_and_modifiesA_of_rmwInstr exec_asl aslOp_eq
  obtain ⟨hlsr, hlsrA⟩ := modifies_and_modifiesA_of_rmwInstr exec_lsr lsrOp_eq
  obtain ⟨hrol, hrolA⟩ := modifies_and_modifiesA_of_rmwInstr exec_rol rolOp_eq
  obtain ⟨hror, hrorA⟩ := modifies_and_modifiesA_of_rmwInstr exec_ror rorOp_eq
  exact ⟨hasl, haslA, hlsr, hlsrA, hrol, hrolA, hror, hrorA⟩

end Sys2Proof.Machine

/-! SUPPORT. Branches, the call and the return, BRK and RTI (43_control_transfer.md R270-R283): the opcode that R190's map gives each
mnemonic, the signed displacement as a number, and what a frame on the stack leaves unchanged. -/

namespace Sys2Proof.Machine

open Sys2Proof.Claims

/-! ### Mnemonics of one opcode -/

/-- An instruction whose mnemonic has one opcode in R190's map is what that opcode decodes to. -/
theorem eq_decodeOp_of_form {m : Mnemonic} {op : Byte} (honly : ∀ b : Byte, (specRow b).1 = m → b = op) {i : Instr} {o : Operand}
    (h : i.form = (m, o)) : ∃ b1 b2, i = decodeOp op b1 b2 := by
  have hrow : (specRow i.opcode).1 = m := (congrArg Prod.fst (form_mode i)).symm.trans (congrArg Prod.fst h)
  exact ⟨_, _, honly _ hrow ▸ (decodeOp_own i).symm⟩

theorem exec_jsr {i : Instr} {l h : Byte} (s : State) (hform : i.form = (.JSR, .abs l h)) :
    exec i s = finish 6 (setPc (mkAddr h l) (push16 (s.cpu.pc - 1) s)) := by
  obtain ⟨_, _, rfl⟩ := eq_decodeOp_of_form (op := 0x20) (by decide) hform
  cases hform
  rfl

theorem exec_rts {i : Instr} {o : Operand} (s : State) (hform : i.form = (.RTS, o)) :
    exec i s = finish 6 (setPc ((pull16 s).1 + 1) (pull16 s).2) := by
  obtain ⟨_, _, rfl⟩ := eq_decodeOp_of_form (op := 0x60) (by decide) hform
  rfl

theorem exec_brk {i : Instr} {o : Operand} (s : State) (hform : i.form = (.BRK, o)) :
    exec i s = finish 7 (enterInterrupt true 0xFFFE (setPc (s.cpu.pc + 1) s)) := by
  obtain ⟨_, _, rfl⟩ := eq_decodeOp_of_form (op := 0x00) (by decide) hform
  rfl

theorem exec_rti {i : Instr} {o : Operand} (s : State) (hform : i.form = (.RTI, o)) :
    exec i s = finish 6 (returnFromInterrupt s) := by
  obtain ⟨_, _, rfl⟩ := eq_decodeOp_of_form (op := 0x40) (by decide) hform
  rfl

/-! ### Branches -/

/-- The target of a branch as a number: pc plus the signed displacement, modulo 65536 (R187). -/
theorem branchTarget_eq_ofInt (pc : Addr) (r : Byte) : branchTarget pc r = BitVec.ofInt 16 (pc.toNat + r.toInt) := by
  have hpc : BitVec.ofInt 16 pc.toNat = pc := by rw [BitVec.ofInt_natCast, BitVec.ofNat_toNat, BitVec.setWidth_eq]
  rw [BitVec.ofInt_add, hpc]
  rfl

/-- The cost of a branch by page numbers (R270). -/
theorem branchCost_eq (taken : Bool) (pc target : Addr) :
    branchCost taken pc target = if taken then (if target.toNat / 256 = pc.toNat / 256 then 3 else 4) else 2 := by
  unfold branchCost
  rw [ite_not]
  simp only [← BitVec.toNat_inj, hiByte_toNat]

theorem branchInstr_eq (taken : Bool) (r : Byte) (s : State) :
    branchInstr taken r s = .next { s with
      cpu := { s.cpu with pc := if taken then branchTarget s.cpu.pc r else s.cpu.pc }
      run := charged (branchCost taken s.cpu.pc (branchTarget s.cpu.pc r)) s } := by
  cases taken <;> rfl

/-- A mnemonic with one relative opcode in R190's map, whose instruction is a branch by `cond`. -/
theorem branches_of_exec {m : Mnemonic} {cond : Flags → Bool} (op : Byte) (hrow : specRow op = (m, .rel))
    (honly : ∀ b : Byte, (specRow b).1 = m → b = op)
    (hexec : ∀ r b s, exec (decodeOp op r b) s = branchInstr (cond s.cpu.f) r s) : Branches m cond := by
  intro i o s h
  obtain ⟨r, b, rfl⟩ := eq_decodeOp_of_form honly h
  have hoperand : o = .rel r := by
    rw [decodeOp_form, hrow] at h
    exact (congrArg Prod.snd h).symm
  refine ⟨r, hoperand, ?_⟩
  rw [hexec, branchInstr_eq, branchCost_eq, branchTarget_eq_ofInt]

/-- Settles O24: each branch has one opcode, and its instruction is the common rule of R270 on its flag. -/
theorem conditionalBranches : Obligations.ConditionalBranches := by
  unfold Obligations.ConditionalBranches
  exact ⟨branches_of_exec 0x10 rfl (by decide) fun _ _ _ => rfl,
    branches_of_exec 0x30 rfl (by decide) fun _ _ _ => rfl,
    branches_of_exec 0x50 rfl (by decide) fun _ _ _ => rfl,
    branches_of_exec 0x70 rfl (by decide) fun _ _ _ => rfl,
    branches_of_exec 0x90 rfl (by decide) fun _ _ _ => rfl,
    branches_of_exec 0xB0 rfl (by decide) fun _ _ _ => rfl,
    branches_of_exec 0xD0 rfl (by decide) fun _ _ _ => rfl,
    branches_of_exec 0xF0 rfl (by decide) fun _ _ _ => rfl⟩

/-! ### The stack as a claim speaks of it -/

/-- A write of a RAM cell leaves the byte of every other location. -/
theorem Loc.byte_ramWrite_other {l : Loc} {k : Nat} (h : l ≠ .ram k) (v : Byte) (m : Mems) :
    l.byte { m with ram := m.ram.write k v } = l.byte m := by
  cases l with
  | ram j => exact congrArg some (Memory.read_write_other m.ram v fun hj => h (congrArg Loc.ram hj))
  | sram | prg | device | dead => rfl

theorem push16_eq_stackCell (v : Addr) (s : State) :
    push16 v s = { s with
      cpu := { s.cpu with sp := s.cpu.sp - 2 }
      mem := { s.mem with
        ram := (s.mem.ram.write (stackCell s.cpu.sp) (BitVec.ofNat 8 (v.toNat / 256))).write
          (stackCell (s.cpu.sp - 1)) (BitVec.ofNat 8 v.toNat) } } := by
  rw [push16_eq, hiByte_eq, loByte_eq, sub_sub]
  rfl

theorem pull16_eq_stackCell (s : State) :
    pull16 s = (s.mem.ram.read (stackCell (s.cpu.sp + 2)) ++ s.mem.ram.read (stackCell (s.cpu.sp + 1)),
      { s with cpu := { s.cpu with sp := s.cpu.sp + 2 } }) := by
  rw [pull16_eq, BitVec.add_assoc]
  rfl

/-! ### Call and return -/

/-- Settles O26: the call is a push of pc - 1 and the return a pull, both of two cells of page one. -/
theorem callAndReturn : Obligations.CallAndReturn := by
  unfold Obligations.CallAndReturn
  constructor
  · intro i l h s hform ret high t
    constructor
    · rw [exec_jsr s hform, push16_eq_stackCell]
      rfl
    · intro b hhigh hlow
      have hmem : (locate b s).byte t.mem = (locate b s).byte s.mem :=
        (Loc.byte_ramWrite_other hlow _ { s.mem with ram := high }).trans (Loc.byte_ramWrite_other hhigh _ s.mem)
      exact peek_eq_of_locate rfl hmem
  · intro i o s hform
    rw [exec_rts s hform, pull16_eq_stackCell]
    rfl

/-! ### Interrupt entry and return -/

/-- P as pushed, bit by bit (10_state.md R36). -/
theorem pushed_eq_statusByte (f : Flags) (b : Bool) : f.pushed b = statusByte f b := by
  obtain ⟨n, v, d, i, z, c⟩ := f
  revert n v d i z c b
  decide

theorem frameRam_setPc (b : Bool) (pc : Addr) (s : State) : Machine.frameRam b (setPc pc s) = Claims.frameRam b pc s := by
  unfold Machine.frameRam Claims.frameRam
  rw [setPc_pc, setPc_f, setPc_sp, hiByte_eq, loByte_eq, pushed_eq_statusByte, sub_sub]
  rfl

theorem framed_setPc (b : Bool) (pc : Addr) (s : State) :
    framed b (setPc pc s) = { s with
      cpu := { s.cpu with sp := s.cpu.sp - 3, pc := pc, f := { s.cpu.f with i := true } }
      mem := { s.mem with ram := Claims.frameRam b pc s } } := by
  unfold framed
  rw [frameRam_setPc, setPc_sp, sub_sub, sub_sub]
  rfl

/-- Setting pc after reads, when the registers are still those before the reads. -/
theorem ReadFrame.setPc_eq {s t : State} (h : ReadFrame s t) (v : Addr) : setPc v t = { t with cpu := { s.cpu with pc := v } } := by
  unfold setPc
  rw [h.cpu]

/-- The shared interrupt entry with `pc` to be saved is the entry that the claims describe (60_exceptions.md R359). -/
theorem enterInterrupt_setPc (b : Bool) (pc vector : Addr) (s : State) :
    enterInterrupt b vector (setPc pc s) = entered b pc vector s := by
  rw [enterInterrupt_eq, (memRead16_frame vector _).setPc_eq, framed_setPc]
  rfl

/-- Beyond the frame on the stack and the registers, the entry has only the effects of its two vector reads. -/
theorem entered_readFrame (b : Bool) (pc vector : Addr) (s : State) :
    ReadFrame { s with cpu := (entered b pc vector s).cpu, mem := { s.mem with ram := Claims.frameRam b pc s } }
      (entered b pc vector s) :=
  { framed_setPc b pc s ▸ memRead16_frame vector (framed b (setPc pc s)) with cpu := rfl }

theorem entered_frameBytes (b : Bool) (pc vector : Addr) (s : State) : FrameBytes s (entered b pc vector s) := by
  intro a hhigh hlow hstatus
  have hread := entered_readFrame b pc vector s
  have hram : (locate a s).byte { s.mem with ram := Claims.frameRam b pc s } = (locate a s).byte s.mem :=
    (Loc.byte_ramWrite_other hstatus _ { s.mem with ram := _ }).trans
      ((Loc.byte_ramWrite_other hlow _ { s.mem with ram := _ }).trans (Loc.byte_ramWrite_other hhigh _ s.mem))
  exact (peek_congr hread.pages hread.mem a).trans (peek_eq_of_locate rfl hram)

/-- Settles O27: BRK is the shared entry with pc past the padding byte. -/
theorem softwareInterrupt : Obligations.SoftwareInterrupt := by
  unfold Obligations.SoftwareInterrupt
  intro i o s hform t
  have hrun : (entered true (s.cpu.pc + 1) 0xFFFE s).run = s.run := (entered_readFrame _ _ _ s).run
  refine ⟨?_, entered_frameBytes true (s.cpu.pc + 1) 0xFFFE s⟩
  rw [exec_brk s hform, enterInterrupt_setPc, finish, charge, hrun]
  rfl

theorem returnFromInterrupt_eq_stackCell (s : State) :
    returnFromInterrupt s = { s with cpu := { s.cpu with
      sp := s.cpu.sp + 3
      f := Flags.pulled (s.mem.ram.read (stackCell (s.cpu.sp + 1)))
      pc := s.mem.ram.read (stackCell (s.cpu.sp + 3)) ++ s.mem.ram.read (stackCell (s.cpu.sp + 2)) } } := by
  rw [returnFromInterrupt_eq, BitVec.add_assoc s.cpu.sp 1 1, BitVec.add_assoc s.cpu.sp (1 + 1) 1]
  rfl

/-- Settles O28: RTI is the shared return, three pulls of page one. The obligation's own name is the model's function. -/
theorem returnFromInterrupt_rti : Obligations.ReturnFromInterrupt := by
  unfold Obligations.ReturnFromInterrupt
  intro i o s hform p
  rw [exec_rti s hform, returnFromInterrupt_eq_stackCell]
  rfl

end Sys2Proof.Machine

/-! SUPPORT. The stack instructions by the push and the pull of one cell of page one, the flag instructions by their one opcode, and the NOPs
as reading instructions without effect (44_stack_flags_misc.md R290-R301; 45_jam_undocumented.md R313). -/

namespace Sys2Proof.Machine

open Sys2Proof.Claims

/-! ### Push and pull -/

theorem exec_pha {i : Instr} {o : Operand} (s : State) (hform : i.form = (.PHA, o)) : exec i s = finish 3 (push s.cpu.a s) := by
  obtain ⟨_, _, rfl⟩ := eq_decodeOp_of_form (op := 0x48) (by decide) hform
  rfl

theorem exec_php {i : Instr} {o : Operand} (s : State) (hform : i.form = (.PHP, o)) :
    exec i s = finish 3 (push (s.cpu.f.pushed true) s) := by
  obtain ⟨_, _, rfl⟩ := eq_decodeOp_of_form (op := 0x08) (by decide) hform
  rfl

theorem exec_pla {i : Instr} {o : Operand} (s : State) (hform : i.form = (.PLA, o)) :
    exec i s = finish 4 (setNZ (pull s).1 (setA (pull s).1 (pull s).2)) := by
  obtain ⟨_, _, rfl⟩ := eq_decodeOp_of_form (op := 0x68) (by decide) hform
  rfl

theorem exec_plp {i : Instr} {o : Operand} (s : State) (hform : i.form = (.PLP, o)) :
    exec i s = finish 4 (setFlags (Flags.pulled (pull s).1) (pull s).2) := by
  obtain ⟨_, _, rfl⟩ := eq_decodeOp_of_form (op := 0x28) (by decide) hform
  rfl

/-- PHA and PHP differ in the byte pushed alone. -/
theorem exec_phaOrPhp {i : Instr} {o : Operand} (s : State) (hform : i.form = (.PHA, o) ∨ i.form = (.PHP, o)) :
    exec i s = finish 3 (push (if i.form.1 = .PHA then s.cpu.a else statusByte s.cpu.f true) s) := by
  rcases hform with h | h
  · rw [exec_pha s h, h, if_pos rfl]
  · rw [exec_php s h, h, if_neg (show Mnemonic.PHP ≠ .PHA by decide), pushed_eq_statusByte]

/-- Settles O29: one cell of page one is written or read, S moves by one, and no byte at another location changes. -/
theorem pushAndPullInstructions : Obligations.PushAndPullInstructions := by
  unfold Obligations.PushAndPullInstructions
  refine ⟨?_, ?_, ?_⟩
  · intro i o s hform v t
    constructor
    · rw [exec_phaOrPhp s hform, push_eq]
      rfl
    · intro b hcell
      exact peek_eq_of_locate rfl (Loc.byte_ramWrite_other hcell v s.mem)
  · intro i o s hform v
    rw [exec_pla s hform, pull_eq]
    rfl
  · intro i o s hform p
    rw [exec_plp s hform, pull_eq]
    rfl

/-! ### NOP -/

/-- An implied operand has no address: `Load` would read address 0 for it, a byte of RAM, without effect. -/
theorem nopRead_imp (s : State) : nopRead .imp 2 s = finish 2 s := by
  have hload : (loadOperand .imp s).2 = s := congrArg Prod.snd (memRead_zp 0 s)
  unfold nopRead
  rw [readInstr_eq, hload]
  rfl

theorem exec_nop (i : Instr) (o : Operand) (s : State) (h : i.form = (.NOP, o)) : exec i s = nopRead o (readCycles o.mode) s := by
  cases i with
  | nop | nopImp1A | nopImp3A | nopImp5A | nopImp7A | nopImpDA | nopImpFA => cases h; exact (nopRead_imp s).symm
  | nopImm80 | nopImm82 | nopImm89 | nopImmC2 | nopImmE2 | nopZp04 | nopZp44 | nopZp64 | nopZpx14 | nopZpx34 | nopZpx54 | nopZpx74
  | nopZpxD4 | nopZpxF4 | nopAbs | nopAbsx1C | nopAbsx3C | nopAbsx5C | nopAbsx7C | nopAbsxDC | nopAbsxFC => cases h; rfl
  | _ => cases h

theorem registerOnly_nop : RegisterOnly .NOP (fun c => c) :=
  fun i s h => (exec_nop i .imp s h).trans (nopRead_imp s)

/-- Settles O30: each flag instruction has one opcode and sets its flag; every NOP is a reading instruction without effect. -/
theorem flagInstructionsAndNop : Obligations.FlagInstructionsAndNop := by
  unfold Obligations.FlagInstructionsAndNop
  exact ⟨registerOnly_of_exec .clc rfl (by decide) fun _ => rfl,
    registerOnly_of_exec .sec rfl (by decide) fun _ => rfl,
    registerOnly_of_exec .cli rfl (by decide) fun _ => rfl,
    registerOnly_of_exec .sei rfl (by decide) fun _ => rfl,
    registerOnly_of_exec .cld rfl (by decide) fun _ => rfl,
    registerOnly_of_exec .sed rfl (by decide) fun _ => rfl,
    registerOnly_of_exec .clv rfl (by decide) fun _ => rfl,
    registerOnly_nop,
    fun i v s h => exec_nop i (.imm v) s h,
    reads_of_readInstr exec_nop fun _ _ => rfl⟩

end Sys2Proof.Machine

/-! SUPPORT. JAM and the refused opcodes by the fetch of their one byte, and the undocumented instructions by the shapes of instructions
(45_jam_undocumented.md R311-R333). -/

namespace Sys2Proof.Machine

open Sys2Proof.Claims

/-! ### Refused opcodes and JAM -/

/-- A refused opcode leaves pc on itself: the fetch moved pc past one byte and read that byte. -/
theorem refuseOpcode_fetchByte (s : State) :
    refuseOpcode (fetchByte s).2 =
      { (memRead s.cpu.pc s).2 with cpu := s.cpu, run := { s.run with refused := true, remaining := 0 } } := by
  rw [fetchByte_eq]
  unfold refuseOpcode
  dsimp only
  rw [BitVec.add_sub_cancel, (memRead_frame s.cpu.pc s).run]

/-- So does a JAM. -/
theorem jamCpu_fetchByte (s : State) :
    jamCpu (fetchByte s).2 =
      { (memRead s.cpu.pc s).2 with
        cpu := s.cpu
        run := { s.run with jammed := true, cycles := s.run.cycles + Config.jamCycles, remaining := 0 } } := by
  rw [fetchByte_eq]
  unfold jamCpu
  dsimp only
  rw [BitVec.add_sub_cancel, (memRead_frame s.cpu.pc s).run]

theorem step_of_sliceRunning {s : State} {k : SliceKind} {start : Nat} (hphase : s.orch.phase = .slice k start)
    (hrun : sliceRunning s = true) : step s = cpuStep s := by
  unfold step machineStep
  rw [hphase]
  exact if_pos hrun

theorem cpuStep_jammed {s : State} (hjam : s.run.jammed = true) : cpuStep s = .next (jamCpu (fetchByte s).2) := if_pos hjam

theorem cpuStep_refused {s : State} (hjam : s.run.jammed = false) (hpolicy : s.undocPolicy = .refuse)
    (hop : (memRead s.cpu.pc s).1 ∈ undocumentedOpcodes) : cpuStep s = .next (refuseOpcode (fetchByte s).2) := by
  have hsame : (fetchByte s).2.undocPolicy = s.undocPolicy := (memRead_frame s.cpu.pc s).undocPolicy
  have hrefuses : policyRefuses (fetchByte s).1 (fetchByte s).2 = true := (policyRefuses_iff _ _).mpr ⟨hsame.trans hpolicy, hop⟩
  unfold cpuStep
  rw [hjam]
  exact if_pos hrefuses

/-- Settles O9: the refusing step has the effect of its one fetch, and every primitive begins with the test of `refused` (R311, R595). -/
theorem refusalStopsTheCpu : Obligations.RefusalStopsTheCpu := by
  unfold Obligations.RefusalStopsTheCpu
  constructor
  · intro s k start hphase hrun hjam hpolicy hop
    rw [step_of_sliceRunning hphase hrun, cpuStep_refused hjam hpolicy hop, refuseOpcode_fetchByte]
  · intro s hrefused
    have hstopped : (s.run.refused || s.run.jammed) = true := Bool.or_eq_true_iff.mpr (.inl hrefused)
    refine ⟨if_pos hstopped, if_pos hstopped, fun _ => if_pos hrefused, if_pos hrefused, if_pos hrefused, fun _ => if_pos hrefused, ?_⟩
    unfold sliceRunning
    rw [hrefused, Bool.not_true, Bool.and_false]

theorem exec_jam (i : Instr) (o : Operand) (s : State) (h : i.form = (.JAM, o)) : exec i s = .next (jamCpu s) := by
  cases i with
  | jam02 | jam12 | jam22 | jam32 | jam42 | jam52 | jam62 | jam72 | jam92 | jamB2 | jamD2 | jamF2 => rfl
  | _ => cases h

/-- JAM has no operand bytes to fetch. -/
theorem operandCount_jam : ∀ op ∈ jamOpcodes, operandCount op = 0 := by decide

/-- R193: the undocumented opcodes of the policy leave out JAM. -/
theorem jam_not_undocumented : ∀ op ∈ jamOpcodes, op ∉ undocumentedOpcodes := by decide

/-- A JAM opcode jams the CPU under either policy. -/
theorem step_jamOpcode {s : State} {k : SliceKind} {start : Nat} (hphase : s.orch.phase = .slice k start)
    (hrun : sliceRunning s = true) (hjam : s.run.jammed = false) (hop : (memRead s.cpu.pc s).1 ∈ jamOpcodes) :
    step s = .next (jamCpu (fetchByte s).2) := by
  have hcount : operandCount (fetchByte s).1 = 0 := operandCount_jam _ hop
  have hfetch : (fetchOperands (fetchByte s).1 (fetchByte s).2).2 = (fetchByte s).2 := by
    unfold fetchOperands
    rw [hcount]
    rfl
  have hform : (fetchOperands (fetchByte s).1 (fetchByte s).2).1.form.1 = .JAM :=
    (congrArg Prod.fst (decodeOp_form _ _ _)).trans ((specRow_jam _).mpr hop)
  rw [step_fetched hphase hrun hjam fun h => jam_not_undocumented _ hop h.2, exec_jam _ _ _ (Prod.ext hform rfl), hfetch]

/-- Settles O10: a JAM opcode and a CPU that is already jammed end the step alike, with pc back on the byte fetched. -/
theorem jamHaltsTheCpu : Obligations.JamHaltsTheCpu := by
  unfold Obligations.JamHaltsTheCpu
  refine ⟨exec_jam, fun s k start hphase hrun hcause => ?_⟩
  rw [← jamCpu_fetchByte]
  cases hjam : s.run.jammed with
  | true => rw [step_of_sliceRunning hphase hrun, cpuStep_jammed hjam]
  | false => exact step_jamOpcode hphase hrun hjam (hcause.resolve_left (by rw [hjam]; exact Bool.false_ne_true))

/-! ### Combined read-modify-write instructions -/

/-- N and Z of the byte written do not matter where the second part of an instruction sets both anew. -/
theorem modifies_of_withNZ {m : Mnemonic} {f : Byte → Flags → Byte × Flags} {g : Byte → Cpu → Cpu}
    (h : Modifies m (fun x c => withNZ (f x c)) g) (hg : ∀ r c, g r { c with f := nz c.f r } = g r c) : Modifies m f g := by
  intro i o s hform hacc a x r t
  have hcpu : g r.1 { s.cpu with f := nz r.2 r.1 } = g r.1 { s.cpu with f := r.2 } := hg r.1 { s.cpu with f := r.2 }
  have hnext := h i o s hform hacc
  dsimp only [withNZ] at hnext
  rw [hcpu] at hnext
  exact hnext

theorem exec_slo (i : Instr) (o : Operand) (s : State) (h : i.form = (.SLO, o)) : exec i s = slo o (rmwCycles o.mode) s := by
  cases i with
  | sloIzx | sloZp | sloAbs | sloIzy | sloZpx | sloAbsy | sloAbsx => cases h; rfl
  | _ => cases h

theorem exec_rla (i : Instr) (o : Operand) (s : State) (h : i.form = (.RLA, o)) : exec i s = rla o (rmwCycles o.mode) s := by
  cases i with
  | rlaIzx | rlaZp | rlaAbs | rlaIzy | rlaZpx | rlaAbsy | rlaAbsx => cases h; rfl
  | _ => cases h

theorem exec_sre (i : Instr) (o : Operand) (s : State) (h : i.form = (.SRE, o)) : exec i s = sre o (rmwCycles o.mode) s := by
  cases i with
  | sreIzx | sreZp | sreAbs | sreIzy | sreZpx | sreAbsy | sreAbsx => cases h; rfl
  | _ => cases h

theorem exec_rra (i : Instr) (o : Operand) (s : State) (h : i.form = (.RRA, o)) : exec i s = rra o (rmwCycles o.mode) s := by
  cases i with
  | rraIzx | rraZp | rraAbs | rraIzy | rraZpx | rraAbsy | rraAbsx => cases h; rfl
  | _ => cases h

theorem exec_dcp (i : Instr) (o : Operand) (s : State) (h : i.form = (.DCP, o)) : exec i s = dcp o (rmwCycles o.mode) s := by
  cases i with
  | dcpIzx | dcpZp | dcpAbs | dcpIzy | dcpZpx | dcpAbsy | dcpAbsx => cases h; rfl
  | _ => cases h

theorem exec_isb (i : Instr) (o : Operand) (s : State) (h : i.form = (.ISB, o)) : exec i s = isb o (rmwCycles o.mode) s := by
  cases i with
  | isbIzx | isbZp | isbAbs | isbIzy | isbZpx | isbAbsy | isbAbsx => cases h; rfl
  | _ => cases h

/-- A shift or rotate `op`, which is `f` with N and Z of its byte, and then an effect on the registers that sets N and Z anew. -/
theorem modifies_of_shiftThenInstr {m : Mnemonic} {op f : Byte → Flags → Byte × Flags} {effect : Byte → State → State}
    {g : Byte → Cpu → Cpu}
    (hexec : ∀ i o s, i.form = (m, o) → exec i s = rmwThenInstr o (rmwCycles o.mode) op effect s)
    (hop : ∀ x c, op x c = withNZ (f x c)) (heffect : ∀ v s, effect v s = { s with cpu := g v s.cpu })
    (hg : ∀ r c, g r { c with f := nz c.f r } = g r c) : Modifies m f g := by
  obtain rfl : op = fun x c => withNZ (f x c) := funext₂ hop
  exact modifies_of_withNZ (modifies_of_rmwThenInstr (fun i o s h _ => hexec i o s h) heffect) hg

/-- The second part of RRA is ADC, with the C that the rotate left (R317). -/
theorem rra_effect (r : Byte) (s : State) :
    setFlags (adcOp s.cpu.a r s.cpu.f).2 (setA (adcOp s.cpu.a r s.cpu.f).1 s) = { s with cpu := added r s.cpu } :=
  congrArg (fun c => { s with cpu := c }) (addBin_eq_added r s.cpu)

/-- The second part of ISB is SBC (R321). -/
theorem isb_effect (r : Byte) (s : State) :
    setFlags (sbcOp s.cpu.a r s.cpu.f).2 (setA (sbcOp s.cpu.a r s.cpu.f).1 s) = { s with cpu := subtracted r s.cpu } :=
  congrArg (fun c => { s with cpu := c }) ((addBin_eq_added (r ^^^ 0xFF) s.cpu).trans (added_complement r s.cpu))

/-- The second part of DCP is CMP (R320). -/
theorem dcp_effect (r : Byte) (s : State) :
    setFlags (compareOp s.cpu.a r s.cpu.f) s = { s with cpu := { s.cpu with f := compared s.cpu.a r s.cpu.f } } :=
  congrArg (fun f => setFlags f s) (compareOp_eq_compared s.cpu.a r s.cpu.f)

/-- Settles O31: each is a documented read-modify-write operation followed by a documented operation on A, whose N and Z remain. -/
theorem combinedReadModifyWrite : Obligations.CombinedReadModifyWrite := by
  unfold Obligations.CombinedReadModifyWrite
  exact ⟨modifies_of_shiftThenInstr exec_slo aslOp_eq (fun _ _ => rfl) fun _ _ => rfl,
    modifies_of_shiftThenInstr exec_rla rolOp_eq (fun _ _ => rfl) fun _ _ => rfl,
    modifies_of_shiftThenInstr exec_sre lsrOp_eq (fun _ _ => rfl) fun _ _ => rfl,
    modifies_of_shiftThenInstr exec_rra rorOp_eq rra_effect fun _ _ => rfl,
    modifies_of_rmwThenInstr (fun i o s h _ => exec_dcp i o s h) dcp_effect,
    modifies_of_rmwThenInstr (fun i o s h _ => exec_isb i o s h) isb_effect⟩

/-! ### SAX, LAX and LAS -/

theorem exec_sax (i : Instr) (o : Operand) (s : State) (h : i.form = (.SAX, o)) : exec i s = sax o (storeCycles o.mode) s := by
  cases i with
  | saxIzx | saxZp | saxAbs | saxZpy => cases h; rfl
  | _ => cases h

theorem exec_lax (i : Instr) (o : Operand) (s : State) (h : i.form = (.LAX, o)) : exec i s = lax o (readCycles o.mode) s := by
  cases i with
  | laxIzx | laxZp | laxAbs | laxIzy | laxZpy | laxAbsy => cases h; rfl
  | _ => cases h

theorem exec_las (i : Instr) (o : Operand) (s : State) (h : i.form = (.LAS, o)) : exec i s = las o (readCycles o.mode) s := by
  obtain ⟨_, _, rfl⟩ := eq_decodeOp_of_form (op := 0xBB) (by decide) h
  cases h
  rfl

/-- Settles O32: SAX is a storing instruction of A & X, LAX and LAS are reading instructions. -/
theorem saxLaxLas : Obligations.SaxLaxLas := by
  unfold Obligations.SaxLaxLas
  exact ⟨stores_of_storeInstr exec_sax, reads_of_readInstr exec_lax fun _ _ => rfl, reads_of_readInstr exec_las fun _ _ => rfl⟩

/-! ### Immediate instructions -/

/-- A mnemonic whose forms are immediate, by its meaning on the immediate byte. -/
theorem immediateOnly_of_exec {m : Mnemonic} {meaning : Byte → State → Result} {c : Byte → Cpu → Cpu}
    (hexec : ∀ i o s, i.form = (m, o) → ∃ v, o = .imm v ∧ exec i s = meaning v s)
    (hmeaning : ∀ v s, meaning v s = .next { s with cpu := c v s.cpu, run := charged 2 s }) : ImmediateOnly m c := by
  intro i o s h
  obtain ⟨v, ho, hv⟩ := hexec i o s h
  exact ⟨v, ho, hv.trans (hmeaning v s)⟩

/-- A mnemonic with one opcode in R190's map, an immediate one. -/
theorem exec_of_immediate {m : Mnemonic} {meaning : Byte → State → Result} (op : Byte) (hrow : specRow op = (m, .imm))
    (honly : ∀ b : Byte, (specRow b).1 = m → b = op) (hexec : ∀ v b s, exec (decodeOp op v b) s = meaning v s)
    (i : Instr) (o : Operand) (s : State) (h : i.form = (m, o)) : ∃ v, o = .imm v ∧ exec i s = meaning v s := by
  obtain ⟨v, b, rfl⟩ := eq_decodeOp_of_form honly h
  rw [decodeOp_form, hrow] at h
  exact ⟨v, (congrArg Prod.snd h).symm, hexec v b s⟩

/-- ANC has two opcodes, with one meaning. -/
theorem exec_anc (i : Instr) (o : Operand) (s : State) (h : i.form = (.ANC, o)) : ∃ v, o = .imm v ∧ exec i s = anc v s := by
  cases i with
  | ancImm0B | ancImm2B => cases h; exact ⟨_, rfl, rfl⟩
  | _ => cases h

/-- ALR is AND and then LSR of A (R323). -/
theorem alr_eq (v : Byte) (s : State) :
    alr v s =
      let r := withNZ (shiftedRight false (s.cpu.a &&& v) s.cpu.f)
      .next { s with cpu := { s.cpu with a := r.1, f := r.2 }, run := charged 2 s } := by
  unfold alr
  rw [lsrOp_eq]
  rfl

/-- The byte of ARR is that of ROR (R324). -/
theorem arrResult_eq (t : Byte) (f : Flags) : arrResult t f.c = (shiftedRight f.c t f).1 := bitAt_or_shiftRight t f.c

theorem arr_eq (v : Byte) (s : State) :
    arr v s =
      let r := (shiftedRight s.cpu.f.c (s.cpu.a &&& v) s.cpu.f).1
      .next { s with
        cpu := { s.cpu with a := r, f := { nz s.cpu.f r with c := r.getLsbD 6, v := r.getLsbD 6 != r.getLsbD 5 } }
        run := charged 2 s } := by
  unfold arr
  rw [arrResult_eq]
  rfl

/-- AXS is a compare of A & X whose difference goes to X (R325). -/
theorem axs_eq (v : Byte) (s : State) :
    axs v s = .next { s with
      cpu := { s.cpu with x := (s.cpu.a &&& s.cpu.x) - v, f := compared (s.cpu.a &&& s.cpu.x) v s.cpu.f }
      run := charged 2 s } := by
  unfold axs
  dsimp only
  rw [compareOp_eq_compared]
  rfl

/-- Settles O33: each sets its registers and flags from the immediate byte, with no bus access of its own. -/
theorem undocumentedImmediates : Obligations.UndocumentedImmediates := by
  unfold Obligations.UndocumentedImmediates
  exact ⟨immediateOnly_of_exec exec_anc fun _ _ => rfl,
    immediateOnly_of_exec (exec_of_immediate 0x4B rfl (by decide) fun _ _ _ => rfl) alr_eq,
    immediateOnly_of_exec (exec_of_immediate 0x6B rfl (by decide) fun _ _ _ => rfl) arr_eq,
    immediateOnly_of_exec (exec_of_immediate 0xCB rfl (by decide) fun _ _ _ => rfl) axs_eq,
    immediateOnly_of_exec (meaning := ane) (exec_of_immediate 0x8B rfl (by decide) fun _ _ _ => rfl) fun _ _ => rfl,
    immediateOnly_of_exec (meaning := lxa) (exec_of_immediate 0xAB rfl (by decide) fun _ _ _ => rfl) fun _ _ => rfl⟩

/-! ### Unstable stores -/

theorem loByte_toNat (a : Addr) : (loByte a).toNat = a.toNat % 256 := by
  rw [loByte_eq, BitVec.toNat_ofNat]

/-- The address of an unstable store as a number (R330-R333). -/
theorem unstableAddr_eq (e : Effective) (v : Byte) :
    unstableAddr e v = if e.crossed then BitVec.ofNat 16 (256 * v.toNat + e.addr.toNat % 256) else e.addr := by
  have hcrossed : mkAddr v (loByte e.addr) = BitVec.ofNat 16 (256 * v.toNat + e.addr.toNat % 256) := by
    apply BitVec.eq_of_toNat_eq
    rw [mkAddr_toNat, loByte_toNat, BitVec.toNat_ofNat]
    omega
  unfold unstableAddr
  rw [hcrossed]

/-- The mask `H + 1` of an unstable store as a number. -/
theorem hiByte_succ (a : Addr) : hiByte a + 1 = BitVec.ofNat 8 (a.toNat / 256 + 1) := by
  rw [hiByte_eq, BitVec.ofNat_add]
  rfl

/-- No effective address depends on S. -/
theorem effAddr_setSp (o : Operand) (v : Byte) (s : State) : (effAddr o (setSp v s)).1 = (effAddr o s).1 := by
  cases o with
  | izx | izy => simp only [effAddr, zpRead16_eq, setSp_mem, setSp_x, setSp_y]
  | _ => rfl

/-- What a store does to the bytes of memory does not depend on the registers. -/
theorem StoresAt.of_setSp {a : Addr} {v sp : Byte} {s t : State} (h : StoresAt a v (setSp sp s) t) : StoresAt a v s t := h

/-- A mnemonic whose forms set S to `sp` and then store `reg & (H + 1)`. -/
theorem unstableStore_of_exec {m : Mnemonic} {reg sp : Cpu → Byte}
    (hexec : ∀ i o s, i.form = (m, o) →
      exec i s = unstableStore o (storeCycles o.mode) (reg s.cpu) (setSp (sp s.cpu) s)) : UnstableStore m reg sp := by
  intro i o s hform e v a u t
  refine ⟨?_, (memWrite_frame a v u).cpu, StoresAt.of_setSp (memWrite_storesAt a v u)⟩
  rw [hexec i o s hform]
  unfold unstableStore
  dsimp only
  rw [effAddr_state, effAddr_setSp, unstableAddr_eq, hiByte_succ]
  rfl

theorem exec_sha (i : Instr) (o : Operand) (s : State) (h : i.form = (.SHA, o)) : exec i s = sha o (storeCycles o.mode) s := by
  cases i with
  | shaIzy | shaAbsy => cases h; rfl
  | _ => cases h

theorem exec_shx (i : Instr) (o : Operand) (s : State) (h : i.form = (.SHX, o)) : exec i s = shx o (storeCycles o.mode) s := by
  obtain ⟨_, _, rfl⟩ := eq_decodeOp_of_form (op := 0x9E) (by decide) h
  cases h
  rfl

theorem exec_shy (i : Instr) (o : Operand) (s : State) (h : i.form = (.SHY, o)) : exec i s = shy o (storeCycles o.mode) s := by
  obtain ⟨_, _, rfl⟩ := eq_decodeOp_of_form (op := 0x9C) (by decide) h
  cases h
  rfl

theorem exec_tas (i : Instr) (o : Operand) (s : State) (h : i.form = (.TAS, o)) : exec i s = tas o (storeCycles o.mode) s := by
  obtain ⟨_, _, rfl⟩ := eq_decodeOp_of_form (op := 0x9B) (by decide) h
  cases h
  rfl

/-- Settles O34: the four are one kind of store, of which TAS alone changes S. -/
theorem unstableStores : Obligations.UnstableStores := by
  unfold Obligations.UnstableStores
  exact ⟨unstableStore_of_exec exec_sha, unstableStore_of_exec exec_shx, unstableStore_of_exec exec_shy,
    unstableStore_of_exec exec_tas⟩

end Sys2Proof.Machine

/-! SUPPORT. The outcome of every step: an instruction always completes (60_exceptions.md R356), and the machine stops only for a host call
that needs a cartridge (64_frame_sync.md R581). -/

namespace Sys2Proof.Machine

open Sys2Proof.Claims

/-! ### Instructions complete -/

/-- Settles O7: every instruction ends in a state that a chain of bus writes reaches. -/
theorem everyInstructionCompletes : Obligations.EveryInstructionCompletes := by
  unfold Obligations.EveryInstructionCompletes
  intro i s
  obtain ⟨t, ht, -⟩ := exec_endsByBus i s
  exact ⟨t, ht⟩

/-! ### The step by the phase of the frame loop -/

theorem step_of_idle {s : State} (hphase : s.orch.phase = .idle) : step s = idleStep s := by
  unfold step machineStep
  rw [hphase]

theorem step_of_call {s : State} {call : HostCall} {rest : List HostCall} (hphase : s.orch.phase = .idle)
    (hcalls : s.host.calls = call :: rest) : step s = runCall call (withCalls rest s) := by
  rw [step_of_idle hphase]
  unfold idleStep
  rw [hcalls]
  rfl

theorem step_of_lineStart {s : State} (hphase : s.orch.phase = .lineStart) : step s = .next (startLine s) := by
  unfold step machineStep
  rw [hphase]

theorem step_of_sliceEnd {s : State} {k : SliceKind} {start : Nat} (hphase : s.orch.phase = .slice k start)
    (hrun : sliceRunning s = false) : step s = .next (endSlice k start s) := by
  unfold step machineStep
  rw [hphase, hrun]
  rfl

/-- With no call pending, an idle machine starts a frame or waits for a cartridge (log 11, log 12). -/
theorem idleStep_of_no_call {s : State} (hcalls : s.host.calls = []) :
    idleStep s = .next (if s.cart.attached then beginFrame (Config.drawFlag s.draws) { s with draws := s.draws + 1 } else s) := by
  unfold idleStep
  rw [hcalls]
  dsimp only
  split <;> rfl

/-! ### Where the machine stops -/

/-- While a cartridge is attached every call runs. -/
theorem runCall_of_attached (call : HostCall) {s : State} (h : s.cart.attached = true) : ∃ t, runCall call s = .next t := by
  cases call with
  | insert image battery => exact ⟨_, rfl⟩
  | eject | renderframe | softReset | hardReset | apuProcess | saveState | loadState => exact ⟨_, if_pos h⟩

/-- Without a cartridge every call but `insert` faults (64_frame_sync.md R581; log 12). -/
theorem runCall_of_detached {call : HostCall} {s : State} (hcall : ∀ i b, call ≠ .insert i b) (h : s.cart.attached = false) :
    runCall call s = .fault .noCartridge := by
  have hd : ¬ s.cart.attached = true := h ▸ Bool.false_ne_true
  cases call with
  | insert image battery => exact absurd rfl (hcall image battery)
  | eject | renderframe | softReset | hardReset | apuProcess | saveState | loadState => exact if_neg hd

/-- A host call other than insert runs with no cartridge attached. -/
def CallStops (s : State) : Prop := CallRuns (fun c => ∀ i b, c ≠ .insert i b) s ∧ s.cart.attached = false

theorem step_of_callStops {s : State} (h : CallStops s) : step s = .fault .noCartridge := by
  obtain ⟨⟨hphase, call, rest, hcalls, hcall⟩, hdetached⟩ := h
  rw [step_of_call hphase hcalls]
  exact runCall_of_detached (s := withCalls rest s) hcall hdetached

theorem step_of_not_callStops {s : State} (h : ¬ CallStops s) : ∃ t, step s = .next t := by
  cases hphase : s.orch.phase with
  | idle =>
    cases hcalls : s.host.calls with
    | nil => exact ⟨_, (step_of_idle hphase).trans (idleStep_of_no_call hcalls)⟩
    | cons call rest =>
      rw [step_of_call hphase hcalls]
      cases hcart : s.cart.attached with
      | true => exact runCall_of_attached call (s := withCalls rest s) hcart
      | false =>
        have hinsert : ∃ i b, call = .insert i b := by
          by_contra hother
          exact h ⟨⟨hphase, call, rest, hcalls, fun i b e => hother ⟨i, b, e⟩⟩, hcart⟩
        obtain ⟨image, battery, rfl⟩ := hinsert
        exact ⟨_, rfl⟩
  | lineStart => exact ⟨_, step_of_lineStart hphase⟩
  | slice k start =>
    cases hrun : sliceRunning s with
    | true =>
      obtain ⟨t, ht, -⟩ := cpuStep_endsByBus s
      exact ⟨t, (step_of_sliceRunning hphase hrun).trans ht⟩
    | false => exact ⟨_, step_of_sliceEnd hphase hrun⟩

/-- Settles O8: a call without a cartridge faults, and every other step goes on. -/
theorem onlyCallsWithoutACartridgeStop : Obligations.OnlyCallsWithoutACartridgeStop := by
  unfold Obligations.OnlyCallsWithoutACartridgeStop
  intro s
  by_cases h : CallStops s
  · rw [step_of_callStops h]
    exact ⟨nofun, fun _ => h, fun _ => ⟨.noCartridge, rfl⟩⟩
  · obtain ⟨t, ht⟩ := step_of_not_callStops h
    rw [ht]
    exact ⟨nofun, nofun, fun hstops => absurd hstops h⟩

end Sys2Proof.Machine

/-! SUPPORT. IRQ, NMI and the entry of a slice as the claims describe them (60_exceptions.md R350, R359-R362). -/

namespace Sys2Proof.Machine

open Sys2Proof.Claims

/-! ### The calls `nmi` and `irq` -/

theorem nmi_of_stopped {s : State} (h : s.run.refused = true ∨ s.run.jammed = true) : nmi s = s := if_pos (Bool.or_eq_true_iff.mpr h)

theorem irq_of_stopped {s : State} (h : s.run.refused = true ∨ s.run.jammed = true) : irq s = s := if_pos (Bool.or_eq_true_iff.mpr h)

theorem entered_run (b : Bool) (pc vector : Addr) (s : State) : (entered b pc vector s).run = s.run :=
  (entered_readFrame b pc vector s).run

theorem interrupt_eq_entered (vector : Addr) (s : State) : interrupt vector s = entered false s.cpu.pc vector s :=
  enterInterrupt_setPc false s.cpu.pc vector s

/-- The entry made by a call owes its 7 cycles as burn (R360, R361). -/
theorem addBurn_interrupt {s : State} (hrefused : s.run.refused = false) (vector : Addr) :
    addBurn intCycles (interrupt vector s) =
      { entered false s.cpu.pc vector s with run := { s.run with burn := s.run.burn + 7 } } := by
  rw [interrupt_eq_entered]
  unfold addBurn
  rw [entered_run, hrefused]
  rfl

/-- The cycles owed show no byte of memory. -/
theorem entered_withRun_frameBytes (b : Bool) (pc vector : Addr) (r : Run) (s : State) :
    FrameBytes s { entered b pc vector s with run := r } := fun a hhigh hlow hstatus =>
  (peek_congr (s := entered b pc vector s) rfl rfl a).trans (entered_frameBytes b pc vector s a hhigh hlow hstatus)

/-- Settles O38: a CPU that is neither refused nor jammed makes the shared entry, or defers the IRQ. -/
theorem interruptEntry : Obligations.InterruptEntry := by
  unfold Obligations.InterruptEntry
  intro s
  refine ⟨fun hstopped => ⟨nmi_of_stopped hstopped, irq_of_stopped hstopped⟩, fun hrefused hjammed => ?_⟩
  have hgoes : ¬ (s.run.refused || s.run.jammed) = true := by
    rw [hrefused, hjammed]
    exact Bool.false_ne_true
  have hnmi : nmi s = { entered false s.cpu.pc 0xFFFA s with run := { s.run with burn := s.run.burn + 7 } } :=
    (if_neg hgoes).trans (addBurn_interrupt hrefused nmiVector)
  refine ⟨hnmi, hnmi ▸ entered_withRun_frameBytes _ _ _ _ s, fun hmasked => (if_neg hgoes).trans (if_pos hmasked), fun hopen => ?_⟩
  have hirq : irq s = { entered false s.cpu.pc 0xFFFE s with run := { s.run with burn := s.run.burn + 7 } } :=
    (if_neg hgoes).trans ((if_neg (hopen ▸ Bool.false_ne_true)).trans (addBurn_interrupt hrefused irqVector))
  exact ⟨hirq, hirq ▸ entered_withRun_frameBytes _ _ _ _ s⟩

/-! ### The vector reads and the run state -/

/-- The state with another run state. -/
def withRun (r : Run) (s : State) : State := { s with run := r }

/-- Reads through the page table neither use nor move the run state; only a read of $2002 looks at the time. -/
theorem memRead_page_withRun {a : Addr} (h : 0x4018 ≤ a.toNat) (r : Run) (s : State) :
    memRead a (withRun r s) = ((memRead a s).1, withRun r (memRead a s).2) := by
  rw [memRead_page h, memRead_page h]
  unfold pageRead
  have hpages : (withRun r s).pages = s.pages := rfl
  rw [hpages]
  cases s.pages.get (pageOf a) with
  | dead => rfl
  | mapped region base => cases region <;> rfl

theorem entered_withRun {vector : Addr} (hlow : 0x4018 ≤ vector.toNat) (hhigh : 0x4018 ≤ (vector + 1).toNat) (b : Bool) (pc : Addr)
    (r : Run) (s : State) : entered b pc vector (withRun r s) = withRun r (entered b pc vector s) := by
  rw [← enterInterrupt_setPc, ← enterInterrupt_setPc, enterInterrupt_eq, enterInterrupt_eq]
  have hframed : framed b (setPc pc (withRun r s)) = withRun r (framed b (setPc pc s)) := rfl
  rw [hframed]
  unfold memRead16
  dsimp only
  rw [memRead_page_withRun hlow, memRead_page_withRun hhigh]
  rfl

/-! ### The entry of a slice -/

/-- The state after a slice of budget `n` has paid the owed burn (R350). -/
def burnPaid (n : Int) (s : State) : State :=
  let k := min s.run.burn n.toNat
  { s with run := { s.run with burn := s.run.burn - k, cycles := s.run.cycles + k, remaining := n - k } }

theorem payBurn_eq_burnPaid (n : Int) (s : State) : payBurn (withRun { s.run with remaining := n } s) = burnPaid n s := by
  unfold payBurn
  split
  · rfl
  · next h =>
    have hnone : min s.run.burn n.toNat = 0 := by
      have hn : ¬ (0 < s.run.burn ∧ 0 < n) := h
      omega
    unfold burnPaid
    rw [hnone]
    dsimp only
    rw [Int.natCast_zero, Int.sub_zero]
    rfl

theorem enterExecute_of_refused {s : State} (hrefused : s.run.refused = true) (n : Int) : enterExecute n s = s := if_pos hrefused

theorem enterExecute_eq {s : State} (hrefused : s.run.refused = false) (n : Int) :
    enterExecute n s = takePendingIrq (burnPaid n s) := by
  rw [← payBurn_eq_burnPaid]
  exact if_neg (hrefused ▸ Bool.false_ne_true)

/-- When the pending IRQ is taken (R350, R362). -/
def TakesIrq (s : State) : Prop :=
  s.run.intPending = true ∧ s.cpu.f.i = false ∧ s.run.jammed = false ∧ 0 < s.run.remaining

theorem takePendingIrq_of_takes {s : State} (h : TakesIrq s) :
    takePendingIrq s = withRun { s.run with intPending := false, cycles := s.run.cycles + 7, remaining := s.run.remaining - 7 }
      (entered false s.cpu.pc irqVector s) := by
  obtain ⟨hpending, hopen, hjammed, hbudget⟩ := h
  have hcond : (s.run.intPending && !s.cpu.f.i && !s.run.jammed && decide (0 < s.run.remaining)) = true := by
    rw [hpending, hopen, hjammed, decide_eq_true hbudget]
    rfl
  have hentry : interrupt irqVector (withRun { s.run with intPending := false } s) =
      withRun { s.run with intPending := false } (entered false s.cpu.pc irqVector s) :=
    (interrupt_eq_entered _ _).trans (entered_withRun (by decide) (by decide) _ _ _ _)
  exact (if_pos hcond).trans (congrArg (charge intCycles) hentry)

theorem takePendingIrq_of_not_takes {s : State} (h : ¬ TakesIrq s) : takePendingIrq s = s := by
  refine if_neg fun hcond => h ?_
  simpa only [TakesIrq, Bool.and_eq_true, Bool.not_eq_true', decide_eq_true_eq, and_assoc] using hcond

/-- Budget is left after the burn exactly where the burn is less than the budget. -/
theorem takesIrq_burnPaid (n : Int) (s : State) :
    TakesIrq (burnPaid n s) ↔
      s.run.intPending = true ∧ s.cpu.f.i = false ∧ s.run.jammed = false ∧ (min s.run.burn n.toNat : Nat) < n := by
  have hleft : 0 < (burnPaid n s).run.remaining ↔ ((min s.run.burn n.toNat : Nat) : Int) < n := Int.sub_pos
  unfold TakesIrq
  rw [hleft]
  rfl

/-- Settles O39: the burn is paid, and then the IRQ is taken, whose vector reads do not look at the run state. -/
theorem sliceEntry : Obligations.SliceEntry := by
  unfold Obligations.SliceEntry
  intro n s hrefused k u
  rw [enterExecute_eq hrefused]
  constructor
  · intro htakes
    exact takePendingIrq_of_takes ((takesIrq_burnPaid n s).mpr htakes)
  · intro hnot
    exact takePendingIrq_of_not_takes fun htakes => hnot ((takesIrq_burnPaid n s).mp htakes)

end Sys2Proof.Machine

/-! SUPPORT. A jammed CPU (60_exceptions.md R351): interrupts have no effect on it, so that the frame loop, the mix call and the host's
other calls leave it jammed with its registers, and an instruction step only jams it again. -/

namespace Sys2Proof.Machine

open Sys2Proof.Claims

/-- The CPU is jammed, and its registers are `c`. -/
def JammedAt (c : Cpu) (s : State) : Prop := s.run.jammed = true ∧ s.cpu = c

section
variable {c : Cpu} {s t : State}

/-! ### Reads, burn and interrupts -/

theorem ReadFrame.jammedAt (h : ReadFrame s t) (hs : JammedAt c s) : JammedAt c t :=
  ⟨(congrArg Run.jammed h.run).trans hs.1, h.cpu.trans hs.2⟩

theorem JammedAt.addBurn (hs : JammedAt c s) (k : Nat) : JammedAt c (addBurn k s) :=
  ⟨(addBurn_jammed k s).trans hs.1, (addBurn_cpu k s).trans hs.2⟩

theorem JammedAt.nmi (hs : JammedAt c s) : JammedAt c (nmi s) := (nmi_of_stopped (.inr hs.1)).symm ▸ hs

theorem JammedAt.irq (hs : JammedAt c s) : JammedAt c (irq s) := (irq_of_stopped (.inr hs.1)).symm ▸ hs

theorem JammedAt.takePendingIrq (hs : JammedAt c s) : JammedAt c (takePendingIrq s) := by
  have hnot : ¬ TakesIrq s := fun ⟨_, _, hjammed, _⟩ => Bool.false_ne_true (hjammed.symm.trans hs.1)
  rw [takePendingIrq_of_not_takes hnot]
  exact hs

/-! ### The mix call -/

theorem JammedAt.dmcFetch (hs : JammedAt c s) : JammedAt c (dmcFetch s) := by
  have hread : JammedAt c (Machine.addBurn 1 (memRead s.apu.dmc.addr s).2) := ((memRead_frame _ s).jammedAt hs).addBurn 1
  unfold Machine.dmcFetch
  dsimp only
  split
  · split
    · exact hread
    · split
      · exact JammedAt.irq hread
      · exact hread
  · exact hread

theorem JammedAt.dmcFetches (hs : JammedAt c s) (n : Nat) : JammedAt c (dmcFetches n s) := by
  induction n generalizing s with
  | zero => exact hs
  | succ n ih =>
    unfold Machine.dmcFetches
    split
    · exact ih hs.dmcFetch
    · exact hs

theorem JammedAt.generateSample (hs : JammedAt c s) : JammedAt c (generateSample s) := by
  have hcount : JammedAt c (countSample s.apu.clock s) := hs
  exact hcount.dmcFetches _

theorem JammedAt.generateSamples (hs : JammedAt c s) (n : Nat) : JammedAt c (generateSamples n s) := by
  induction n generalizing s with
  | zero => exact hs
  | succ n ih => exact ih hs.generateSample

theorem JammedAt.apuProcess (hs : JammedAt c s) (n : Nat) : JammedAt c (apuProcess n s) := by
  have hbuffer : JammedAt c { s with host := { s.host with audio := [] } } := hs
  exact hbuffer.generateSamples n

end

/-! ### The PPU's lines -/

/-- No more than the PPU's registers and the host's side differs. -/
def PpuFrame (s t : State) : Prop := t = { s with ppu := t.ppu, host := t.host }

theorem PpuFrame.trans {s t u : State} (h : PpuFrame s t) (g : PpuFrame t u) : PpuFrame s u := by
  unfold PpuFrame at h g ⊢
  rw [g, h]

theorem writeRow_ppuFrame (draw : Bool) (y : Nat) (row : List Byte) (s : State) : PpuFrame s (writeRow draw y row s) := by
  unfold writeRow
  split <;> rfl

theorem detectStrike_ppuFrame (y : Nat) (s : State) : PpuFrame s (detectStrike y s) := by
  unfold detectStrike
  split
  · split <;> rfl
  · rfl

theorem detectOverflow_ppuFrame (y : Nat) (s : State) : PpuFrame s (detectOverflow y s) := by
  unfold detectOverflow
  split <;> rfl

theorem renderLine_ppuFrame (line : Nat) (draw : Bool) (s : State) : PpuFrame s (renderLine line draw s) := by
  have hv : PpuFrame s { s with ppu := { s.ppu with v := lineStartV line s.ppu.v s.ppu.t } } := rfl
  exact ((hv.trans (detectStrike_ppuFrame line _)).trans (detectOverflow_ppuFrame line _)).trans (writeRow_ppuFrame _ _ _ _)

/-- The PPU's line start moves the PPU's registers and the host's screen alone (61_ppu.md R425). -/
theorem ppuScanline_ppuFrame (line : Nat) (draw : Bool) (s : State) : PpuFrame s (ppuScanline line draw s) := by
  unfold ppuScanline
  split
  · split
    · exact renderLine_ppuFrame line draw s
    · exact writeRow_ppuFrame _ _ _ s
  · split
    · rfl
    · split <;> rfl

theorem ppuEndScanline_ppuFrame (line : Nat) (s : State) : PpuFrame s (ppuEndScanline line s) := by
  unfold ppuEndScanline
  split <;> rfl

section
variable {c : Cpu} {s t : State}

theorem PpuFrame.jammedAt (h : PpuFrame s t) (hs : JammedAt c s) : JammedAt c t :=
  ⟨(congrArg (·.run.jammed) h).trans hs.1, (congrArg State.cpu h).trans hs.2⟩

/-! ### The frame loop -/

theorem JammedAt.enterExecute (hs : JammedAt c s) (n : Int) : JammedAt c (enterExecute n s) := by
  cases hrefused : s.run.refused with
  | true =>
    rw [enterExecute_of_refused hrefused]
    exact hs
  | false =>
    have hpaid : JammedAt c (burnPaid n s) := hs
    rw [enterExecute_eq hrefused]
    exact hpaid.takePendingIrq

theorem JammedAt.beginSlice (hs : JammedAt c s) (k : SliceKind) (n : Int) : JammedAt c (beginSlice k n s) := hs.enterExecute n

theorem JammedAt.mapperHblank (hs : JammedAt c s) : JammedAt c (mapperHblank s) := by
  have hcount : JammedAt c { s with mmc3 := { s.mmc3 with irqCounter := s.mmc3.irqCounter - 1 } } := hs
  unfold Machine.mapperHblank mmc3Hblank
  dsimp only
  split
  · split
    · split
      · exact hcount.irq
      · exact hcount
    · exact hs
  · exact hs

theorem JammedAt.fiqTick (hs : JammedAt c s) (e : Nat) : JammedAt c (fiqTick e s) := by
  unfold Machine.fiqTick
  dsimp only
  split
  · split
    · exact hs
    · exact JammedAt.irq hs
  · exact hs

theorem JammedAt.settleSlice (hs : JammedAt c s) (start : Nat) : JammedAt c (settleSlice start s) := by
  have hacc : JammedAt c { s with orch := { s.orch with acc := s.orch.acc - 12 * ((s.run.cycles - start : Nat) : Int) } } := hs
  exact hacc.fiqTick _

theorem JammedAt.startLineSlice (hs : JammedAt c s) : JammedAt c (startLineSlice s) := by
  have hacc : JammedAt c { Machine.mapperHblank s with
      orch := { (Machine.mapperHblank s).orch with acc := (Machine.mapperHblank s).orch.acc + lineTwelfths } } := hs.mapperHblank
  exact hacc.beginSlice _ _

theorem JammedAt.startLine (hs : JammedAt c s) : JammedAt c (startLine s) := by
  have hline := (ppuScanline_ppuFrame s.orch.scanline s.orch.draw s).jammedAt hs
  unfold Machine.startLine
  dsimp only
  split
  · exact hs
  · split
    · exact hline.beginSlice _ _
    · exact hline.startLineSlice

theorem JammedAt.endNmiDelay (hs : JammedAt c s) (start : Nat) : JammedAt c (endNmiDelay start s) := by
  have hnmi : JammedAt c
      (if (Machine.settleSlice start s).ppu.ctrl0.getLsbD 7 then Machine.nmi (Machine.settleSlice start s)
        else Machine.settleSlice start s) := by
    split
    · exact (hs.settleSlice start).nmi
    · exact hs.settleSlice start
  exact JammedAt.startLineSlice hnmi

theorem JammedAt.endSlice (hs : JammedAt c s) (k : SliceKind) (start : Nat) : JammedAt c (endSlice k start s) := by
  cases k with
  | nmiDelay => exact hs.endNmiDelay start
  | line => exact (ppuEndScanline_ppuFrame _ _).jammedAt (hs.settleSlice start)

/-! ### Host calls and the step -/

/-- A call that needs a cartridge and ends in a next state ends in its own. -/
theorem eq_of_attachedNext {u : State} (h : (if s.cart.attached then .next u else .fault .noCartridge : Result) = .next t) : t = u := by
  split at h
  · cases h
    rfl
  · cases h

/-- A host call that makes no reset and loads no state leaves the CPU jammed. -/
theorem JammedAt.runCall {call : HostCall} (hs : JammedAt c s) (hcall : ¬ endsJam call) (h : runCall call s = .next t) :
    JammedAt c t := by
  cases call with
  | eject | renderframe | saveState => exact eq_of_attachedNext h ▸ hs
  | apuProcess n => exact eq_of_attachedNext h ▸ hs.apuProcess n
  | softReset => exact absurd (.inl rfl) hcall
  | hardReset => exact absurd (.inr (.inl rfl)) hcall
  | insert image battery => exact absurd (.inr (.inr (.inl ⟨image, battery, rfl⟩))) hcall
  | loadState k => exact absurd (.inr (.inr (.inr ⟨k, rfl⟩))) hcall

/-- A jammed CPU that a slice runs jams again, with pc back on the byte it fetched. -/
theorem JammedAt.cpuStep (hs : JammedAt c s) : ∃ t, cpuStep s = .next t ∧ JammedAt c t := by
  refine ⟨_, cpuStep_jammed hs.1, ?_⟩
  rw [jamCpu_fetchByte]
  exact ⟨rfl, hs.2⟩

/-- A step leaves a jammed CPU as it is, or runs a call that may end the JAM. -/
theorem JammedAt.step (hs : JammedAt c s) (h : step s = .next t) : JammedAt c t ∨ CallRuns endsJam s := by
  cases hphase : s.orch.phase with
  | idle =>
    cases hcalls : s.host.calls with
    | nil =>
      rw [step_of_idle hphase, idleStep_of_no_call hcalls] at h
      cases h
      left
      split <;> exact hs
    | cons call rest =>
      by_cases hcall : endsJam call
      · exact .inr ⟨hphase, call, rest, hcalls, hcall⟩
      · rw [step_of_call hphase hcalls] at h
        have hpending : JammedAt c (withCalls rest s) := hs
        exact .inl (hpending.runCall hcall h)
  | lineStart =>
    rw [step_of_lineStart hphase] at h
    cases h
    exact .inl hs.startLine
  | slice k start =>
    cases hrun : sliceRunning s with
    | true =>
      obtain ⟨u, hu, hjam⟩ := hs.cpuStep
      rw [step_of_sliceRunning hphase hrun, hu] at h
      cases h
      exact .inl hjam
    | false =>
      rw [step_of_sliceEnd hphase hrun] at h
      cases h
      exact .inl (hs.endSlice k start)

end

/-- Settles O11: the state of a jammed CPU is an invariant of every other step. -/
theorem onlyResetEndsAJam : Obligations.OnlyResetEndsAJam := by
  unfold Obligations.OnlyResetEndsAJam
  intro s t hjammed h
  exact JammedAt.step ⟨hjammed, rfl⟩ h

end Sys2Proof.Machine

/-! SUPPORT. The PPU's registers on the bus (61_ppu.md R410-R424): the register that an address of $2000-$3FFF names, the bits of `t` after
each write, the port $2007 cell by cell, and OAM DMA byte by byte. -/

namespace Sys2Proof.Machine

open Sys2Proof.Claims

/-! ### The register an address names -/

section
variable {a : Addr} {s : State}

theorem ppuRegRead_status (h : a.toNat % 8 = 2) : ppuRegRead a s = readStatus s := by
  simp only [ppuRegRead, h]

theorem ppuRegRead_oamData (h : a.toNat % 8 = 4) : ppuRegRead a s = readOamData s := by
  simp only [ppuRegRead, h]

theorem ppuRegRead_vramData (h : a.toNat % 8 = 7) : ppuRegRead a s = readVramData s := by
  simp only [ppuRegRead, h]

/-- The write-only registers read as draws (R411). -/
theorem ppuRegRead_writeOnly
    (h : a.toNat % 8 = 0 ∨ a.toNat % 8 = 1 ∨ a.toNat % 8 = 3 ∨ a.toNat % 8 = 5 ∨ a.toNat % 8 = 6) : ppuRegRead a s = takeDraw s := by
  rcases h with h | h | h | h | h <;> simp only [ppuRegRead, h]

theorem ppuRegWrite_ctrl0 (h : a.toNat % 8 = 0) (d : Byte) : ppuRegWrite a d s = writeCtrl0 d s := by
  simp only [ppuRegWrite, h]

theorem ppuRegWrite_ctrl1 (h : a.toNat % 8 = 1) (d : Byte) : ppuRegWrite a d s = writeCtrl1 d s := by
  simp only [ppuRegWrite, h]

theorem ppuRegWrite_status (h : a.toNat % 8 = 2) (d : Byte) : ppuRegWrite a d s = s := by
  simp only [ppuRegWrite, h]

theorem ppuRegWrite_oamAddr (h : a.toNat % 8 = 3) (d : Byte) : ppuRegWrite a d s = writeOamAddr d s := by
  simp only [ppuRegWrite, h]

theorem ppuRegWrite_oamData (h : a.toNat % 8 = 4) (d : Byte) : ppuRegWrite a d s = writeOamData d s := by
  simp only [ppuRegWrite, h]

theorem ppuRegWrite_scroll (h : a.toNat % 8 = 5) (d : Byte) : ppuRegWrite a d s = writeScroll d s := by
  simp only [ppuRegWrite, h]

theorem ppuRegWrite_vramAddr (h : a.toNat % 8 = 6) (d : Byte) : ppuRegWrite a d s = writeVramAddr d s := by
  simp only [ppuRegWrite, h]

theorem ppuRegWrite_vramData (h : a.toNat % 8 = 7) (d : Byte) : ppuRegWrite a d s = writeVramData d s := by
  simp only [ppuRegWrite, h]

end

/-! ### The two halves of $2005 and $2006 -/

section
variable {s : State}

theorem writeScroll_first (hw : s.ppu.w = false) (d : Byte) :
    writeScroll d s =
      { s with ppu := { s.ppu with t := putField s.ppu.t 0 5 (d.toNat / 8), fineX := d.extractLsb' 0 3, w := true } } :=
  if_neg (hw ▸ Bool.false_ne_true)

theorem writeScroll_second (hw : s.ppu.w = true) (d : Byte) :
    writeScroll d s =
      { s with ppu := { s.ppu with t := putField (putField s.ppu.t 5 5 (d.toNat / 8)) 12 3 (d.toNat % 8), w := false } } :=
  if_pos hw

theorem writeVramAddr_first (hw : s.ppu.w = false) (d : Byte) :
    writeVramAddr d s = { s with ppu := { s.ppu with t := putField s.ppu.t 8 7 (d.toNat % 64), w := true } } :=
  if_neg (hw ▸ Bool.false_ne_true)

theorem writeVramAddr_second (hw : s.ppu.w = true) (d : Byte) :
    writeVramAddr d s =
      { s with ppu := { s.ppu with t := putField s.ppu.t 0 8 d.toNat, v := putField s.ppu.t 0 8 d.toNat, w := false } } :=
  if_pos hw

end

/-! ### The bits of `t` that a register write sets -/

section
variable (t : BitVec 15) (d : Byte) {j : Nat}

theorem testBit_byte_div8 (i : Nat) : (d.toNat / 8).testBit i = d.getLsbD (i + 3) := by
  exact (Nat.testBit_div_two_pow (n := 3) d.toNat i).trans (BitVec.testBit_toNat d)

theorem testBit_byte_mod {n : Nat} (i : Nat) : (d.toNat % 2 ^ n).testBit i = (decide (i < n) && d.getLsbD i) := by
  rw [Nat.testBit_mod_two_pow, BitVec.testBit_toNat]

/-- $2000 sets the nametable bits (R414). -/
theorem putNametable_getLsbD (hj : j < 15) :
    (putField t 10 2 (d.toNat % 4)).getLsbD j = if j = 10 ∨ j = 11 then d.getLsbD (j - 10) else t.getLsbD j := by
  rw [putField_getLsbD _ _ _ _ _ hj, show 4 = 2 ^ 2 from rfl, testBit_byte_mod]
  by_cases h : j = 10 ∨ j = 11
  · rw [if_pos h, if_pos (by omega), decide_eq_true (by omega), Bool.true_and]
  · rw [if_neg h, if_neg (by omega)]

/-- The first write of $2005 sets coarse X (R420). -/
theorem putCoarseX_getLsbD (hj : j < 15) :
    (putField t 0 5 (d.toNat / 8)).getLsbD j = if j < 5 then d.getLsbD (j + 3) else t.getLsbD j := by
  rw [putField_getLsbD _ _ _ _ _ hj, testBit_byte_div8]
  simp

/-- The second write of $2005 sets coarse Y and fine Y (R420). -/
theorem putScrollY_getLsbD (hj : j < 15) :
    (putField (putField t 5 5 (d.toNat / 8)) 12 3 (d.toNat % 8)).getLsbD j =
      if 5 ≤ j ∧ j < 10 then d.getLsbD (j - 2) else if 12 ≤ j then d.getLsbD (j - 12) else t.getLsbD j := by
  rw [putField_getLsbD _ _ _ _ _ hj, putField_getLsbD _ _ _ _ _ hj, testBit_byte_div8,
    show d.toNat % 8 = d.toNat % 2 ^ 3 from rfl, testBit_byte_mod]
  by_cases hfine : 12 ≤ j
  · rw [if_pos (by omega), if_neg (by omega), if_pos hfine, decide_eq_true (by omega), Bool.true_and]
  · rw [if_neg (by omega), if_neg hfine]
    by_cases hcoarse : 5 ≤ j ∧ j < 10
    · rw [if_pos (by omega), if_pos hcoarse, show j - 5 + 3 = j - 2 by omega]
    · rw [if_neg (by omega), if_neg hcoarse]

/-- The first write of $2006 sets bits 13:8 and clears bit 14 (R422). -/
theorem putHighAddr_getLsbD (hj : j < 15) :
    (putField t 8 7 (d.toNat % 64)).getLsbD j =
      if 8 ≤ j ∧ j < 14 then d.getLsbD (j - 8) else if j = 14 then false else t.getLsbD j := by
  rw [putField_getLsbD _ _ _ _ _ hj, show 64 = 2 ^ 6 from rfl, testBit_byte_mod]
  by_cases hset : 8 ≤ j ∧ j < 14
  · rw [if_pos (by omega), if_pos hset, decide_eq_true (by omega), Bool.true_and]
  · rw [if_neg hset]
    by_cases hclear : j = 14
    · rw [if_pos (by omega), if_pos hclear, decide_eq_false (by omega), Bool.false_and]
    · rw [if_neg (by omega), if_neg hclear]

/-- The second write of $2006 sets the low byte (R422). -/
theorem putLowAddr_getLsbD (hj : j < 15) :
    (putField t 0 8 d.toNat).getLsbD j = if j < 8 then d.getLsbD j else t.getLsbD j := by
  rw [putField_getLsbD _ _ _ _ _ hj, BitVec.testBit_toNat]
  simp

/-- Both writes of $2006 leave the 14-bit address of the two bytes. -/
theorem putVramAddr_toNat (h l : Byte) :
    (putField (putField t 8 7 (h.toNat % 64)) 0 8 l.toNat).toNat = 256 * (h.toNat % 64) + l.toNat := by
  have hbits : putField (putField t 8 7 (h.toNat % 64)) 0 8 l.toNat = BitVec.ofNat 15 (2 ^ 8 * (h.toNat % 64) + l.toNat) := by
    apply BitVec.eq_of_getLsbD_eq
    intro j hj
    rw [putLowAddr_getLsbD _ _ hj, putField_getLsbD _ _ _ _ _ hj, BitVec.getLsbD_ofNat, Nat.testBit_two_pow_mul_add _ l.isLt,
      decide_eq_true hj, Bool.true_and, BitVec.testBit_toNat]
    by_cases hlow : j < 8
    · rw [if_pos hlow, if_pos hlow]
    · rw [if_neg hlow, if_neg hlow, if_pos (by omega)]
  have := l.isLt
  rw [hbits, BitVec.toNat_ofNat]
  omega

end

/-! ### The status register -/

theorem bitAt_getLsbD (b : Bool) {k : Nat} (hk : k < 8) (j : Nat) : (bitAt b k).getLsbD j = (b && decide (j = k)) := by
  cases b with
  | false => simp [bitAt]
  | true =>
    unfold bitAt
    rw [if_pos rfl, BitVec.getLsbD_shiftLeft, show (1 : Byte) = 1#8 from rfl, BitVec.getLsbD_one, Bool.true_and, Bool.eq_iff_iff]
    simp only [Bool.and_eq_true, decide_eq_true_eq, Bool.not_eq_true', decide_eq_false_iff_not]
    omega

/-- The byte whose low `n` bits are set. -/
theorem getLsbD_lowMask {n : Nat} (hn : n ≤ 8) (j : Nat) : (BitVec.ofNat 8 (2 ^ n - 1)).getLsbD j = decide (j < n) := by
  rw [BitVec.getLsbD_ofNat, Nat.testBit_two_pow_sub_one, ← Bool.decide_and]
  congr 1
  simp only [eq_iff_iff]
  omega

theorem getLsbD_mask5 (j : Nat) : (0x1F : Byte).getLsbD j = decide (j < 5) := getLsbD_lowMask (n := 5) (by decide) j

theorem getLsbD_mask6 (j : Nat) : (0x3F : Byte).getLsbD j = decide (j < 6) := getLsbD_lowMask (n := 6) (by decide) j

/-- The byte a read of $2002 gives, bit by bit (R413). -/
theorem readStatus_getLsbD (s : State) (j : Nat) :
    (readStatus s).1.getLsbD j =
      ((s.ppu.vblank && decide (j = 7) || strikeVisible s && decide (j = 6) || s.ppu.overflow && decide (j = 5)) ||
        (Config.draw s.draws).getLsbD j && decide (j < 5)) := by
  unfold readStatus statusBits
  simp only [BitVec.getLsbD_or, BitVec.getLsbD_and, takeDraw_value, getLsbD_mask5, bitAt_getLsbD _ (show 7 < 8 by decide),
    bitAt_getLsbD _ (show 6 < 8 by decide), bitAt_getLsbD _ (show 5 < 8 by decide)]

/-- Settles O40: the status byte bit by bit, and Scenario 4 by the two halves of $2006. -/
theorem statusRead : Obligations.StatusRead := by
  unfold Obligations.StatusRead
  constructor
  · intro a s hlow hhigh hreg
    rw [memRead_ppuReg hlow hhigh, ppuRegRead_status hreg]
    simp only [readStatus_getLsbD]
    refine ⟨by simp, by simp [strikeVisible], by simp, fun j hj => ?_, rfl⟩
    rw [decide_eq_false (by omega : j ≠ 7), decide_eq_false (by omega : j ≠ 6), decide_eq_false (by omega : j ≠ 5), decide_eq_true hj]
    simp
  · intro h l s
    rw [memRead_ppuReg (by decide) (by decide), ppuRegRead_status (by decide), memWrite_ppuReg (by decide) (by decide),
      memWrite_ppuReg (by decide) (by decide), ppuRegWrite_vramAddr (by decide), ppuRegWrite_vramAddr (by decide),
      writeVramAddr_first (s := (readStatus s).2) rfl, writeVramAddr_second rfl]
    exact ⟨putVramAddr_toNat _ h l, rfl⟩

/-! ### The port $2007 -/

theorem vramAddr_eq (s : State) : vramAddr s = BitVec.ofNat 14 s.ppu.v.toNat := by
  apply BitVec.eq_of_toNat_eq
  simp [vramAddr]

theorem vramNext_eq (s : State) : vramNext s = BitVec.ofNat 15 (s.ppu.v.toNat + (if s.ppu.ctrl0.getLsbD 2 then 32 else 1)) := by
  apply BitVec.eq_of_toNat_eq
  unfold vramNext
  split <;> rw [BitVec.toNat_add, BitVec.toNat_ofNat] <;> rfl

theorem writeVramData_eq (d : Byte) (s : State) :
    writeVramData d s = { ppuWrite (BitVec.ofNat 14 s.ppu.v.toNat) d s with
      ppu := { s.ppu with v := BitVec.ofNat 15 (s.ppu.v.toNat + (if s.ppu.ctrl0.getLsbD 2 then 32 else 1)) } } := by
  rw [← vramAddr_eq, ← vramNext_eq]
  rfl

theorem readVramData_buffered {s : State} (h : (vramAddr s).toNat < 0x3F00) :
    readVramData s = (s.ppu.rdbuf, { s with ppu := { s.ppu with rdbuf := ppuRead (vramAddr s) s, v := vramNext s } }) := if_pos h

theorem readVramData_direct {s : State} (h : 0x3F00 ≤ (vramAddr s).toNat) :
    readVramData s = (ppuRead (vramAddr s) s,
      { s with ppu := { s.ppu with rdbuf := ppuRead (vramAddr s &&& 0x2FFF) s, v := vramNext s } }) := if_neg (Nat.not_lt.mpr h)

/-- $2FFF clears bit 12 of an address of $3000-$3FFF. -/
theorem and_0x2FFF {k : Nat} (h : k < 2 ^ 12) : (2 ^ 12 * 3 + k) &&& 0x2FFF = 2 ^ 12 * 2 + k := by
  apply Nat.eq_of_testBit_eq
  intro j
  rw [Nat.testBit_and, show 0x2FFF = 2 ^ 12 * 2 + (2 ^ 12 - 1) from rfl, Nat.testBit_two_pow_mul_add _ h,
    Nat.testBit_two_pow_mul_add _ h, Nat.testBit_two_pow_mul_add _ (by decide), Nat.testBit_two_pow_sub_one]
  by_cases hj : j < 12
  · simp only [if_pos hj, decide_eq_true hj, Bool.and_true]
  · simp only [if_neg hj, ← Nat.testBit_and]
    rfl

/-- The nametable byte below a palette address lies $1000 lower (R418). -/
theorem nametableBelow_eq {p : PpuAddr} (h : 0x3F00 ≤ p.toNat) : p &&& 0x2FFF = BitVec.ofNat 14 (p.toNat - 0x1000) := by
  have hp := p.isLt
  obtain ⟨k, hk⟩ : ∃ k, p.toNat = 2 ^ 12 * 3 + k := ⟨p.toNat - 2 ^ 12 * 3, by omega⟩
  apply BitVec.eq_of_toNat_eq
  rw [BitVec.toNat_and, BitVec.toNat_ofNat, hk]
  refine (and_0x2FFF (k := k) (by omega)).trans ?_
  omega

/-- Settles O41: each write is its register's, and a pair of writes at $2005 and $2006 is a first and a second half. -/
theorem ppuRegisterWrites : Obligations.PpuRegisterWrites := by
  unfold Obligations.PpuRegisterWrites
  intro a d s hlow hhigh
  rw [memWrite_ppuReg hlow hhigh, memRead_ppuReg hlow hhigh]
  refine ⟨fun hreg => ?ctrl0, fun hreg => ?ctrl1, fun hreg => ?status, fun hreg => ?oamAddr, fun hreg => ?oamData,
    fun hreg hw => ?scroll1, fun hreg hw => ?scroll2, fun hreg hw => ?addr1, fun hreg hw => ?addr2, fun hreg => ?vramData,
    fun b e hblow hbhigh hw => ⟨fun hreg hbreg => ?scrollThenAddr, fun hreg hbreg => ?addrThenScroll⟩, fun hreg => ?reads⟩
  case ctrl0 =>
    rw [ppuRegWrite_ctrl0 hreg]
    exact ⟨rfl, fun j hj => putNametable_getLsbD _ d hj⟩
  case ctrl1 => exact ppuRegWrite_ctrl1 hreg d
  case status => exact ppuRegWrite_status hreg d
  case oamAddr => exact ppuRegWrite_oamAddr hreg d
  case oamData => exact ⟨ppuRegWrite_oamData hreg d, ppuRegRead_oamData hreg⟩
  case scroll1 =>
    rw [ppuRegWrite_scroll hreg, writeScroll_first hw]
    exact ⟨rfl, fun j hj => putCoarseX_getLsbD _ d hj⟩
  case scroll2 =>
    rw [ppuRegWrite_scroll hreg, writeScroll_second hw]
    exact ⟨rfl, fun j hj => putScrollY_getLsbD _ d hj⟩
  case addr1 =>
    rw [ppuRegWrite_vramAddr hreg, writeVramAddr_first hw]
    exact ⟨rfl, fun j hj => putHighAddr_getLsbD _ d hj⟩
  case addr2 =>
    rw [ppuRegWrite_vramAddr hreg, writeVramAddr_second hw]
    exact ⟨rfl, rfl, fun j hj => putLowAddr_getLsbD _ d hj⟩
  case vramData => rw [ppuRegWrite_vramData hreg, writeVramData_eq]
  case scrollThenAddr =>
    rw [memWrite_ppuReg hblow hbhigh, ppuRegWrite_scroll hreg, ppuRegWrite_vramAddr hbreg, writeScroll_first hw, writeVramAddr_second rfl]
    refine ⟨rfl, rfl, fun j hj => ?_⟩
    show (putField (putField _ 0 5 _) 0 8 _).getLsbD j = _
    rw [putLowAddr_getLsbD _ e hj, putCoarseX_getLsbD _ d hj]
    by_cases hlow : j < 8
    · simp only [if_pos hlow]
    · simp only [if_neg hlow, if_neg (show ¬ j < 5 by omega)]
  case addrThenScroll =>
    rw [memWrite_ppuReg hblow hbhigh, ppuRegWrite_vramAddr hreg, ppuRegWrite_scroll hbreg, writeVramAddr_first hw, writeScroll_second rfl]
    refine ⟨rfl, fun j hj => ?_⟩
    show (putField (putField (putField _ 8 7 _) 5 5 _) 12 3 _).getLsbD j = _
    rw [putScrollY_getLsbD _ e hj, putHighAddr_getLsbD _ d hj]
    by_cases hfine : 12 ≤ j
    · simp only [if_pos hfine, if_neg (show ¬ (5 ≤ j ∧ j < 10) by omega)]
    · by_cases hkept : 10 ≤ j
      · simp only [if_neg hfine, if_pos hkept, if_neg (show ¬ (5 ≤ j ∧ j < 10) by omega), if_pos (show 8 ≤ j ∧ j < 14 by omega)]
      · by_cases hcoarse : 5 ≤ j
        · simp only [if_neg hfine, if_neg hkept, if_pos hcoarse, if_pos (show 5 ≤ j ∧ j < 10 by omega)]
        · simp only [if_neg hfine, if_neg hkept, if_neg hcoarse, if_neg (show ¬ (5 ≤ j ∧ j < 10) by omega),
            if_neg (show ¬ (8 ≤ j ∧ j < 14) by omega), if_neg (show ¬ j = 14 by omega)]
  case reads => exact ppuRegRead_writeOnly hreg

/-! ### The cells of the PPU's address space -/

theorem palIndex_eq (p : PpuAddr) :
    palIndex p =
      if p.toNat % 32 = 16 ∨ p.toNat % 32 = 20 ∨ p.toNat % 32 = 24 ∨ p.toNat % 32 = 28 then p.toNat % 32 - 16 else p.toNat % 32 := by
  unfold palIndex
  dsimp only
  split <;> split <;> omega

theorem ppuCell_palette {p : PpuAddr} (h : 0x3F00 ≤ p.toNat) (s : State) : ppuCell p s = .pal (palIndex p) := by
  rw [palIndex_eq]
  exact if_pos h

theorem ppuCell_chr {p : PpuAddr} {s : State} (h : p.toNat < 0x3F00) (hr : (s.ppu.pages.get (ppuPageOf p)).region = .chr) :
    ppuCell p s = .chr ((s.ppu.pages.get (ppuPageOf p)).base + ppuPageOffset p) := by
  unfold ppuCell
  dsimp only
  rw [if_neg (by omega), hr]
  rfl

theorem ppuCell_nt {p : PpuAddr} {s : State} (h : p.toNat < 0x3F00) (hr : (s.ppu.pages.get (ppuPageOf p)).region = .nt) :
    ppuCell p s = .nt ((s.ppu.pages.get (ppuPageOf p)).base + ppuPageOffset p) := by
  unfold ppuCell
  dsimp only
  rw [if_neg (by omega), hr]
  rfl

/-- A PPU address reads its cell (R402). -/
theorem ppuRead_eq_cell (p : PpuAddr) (s : State) : ppuRead p s = (ppuCell p s).read s.mem := by
  by_cases h : 0x3F00 ≤ p.toNat
  · rw [ppuCell_palette h]
    exact if_pos h
  · rw [ppuRead, if_neg h]
    dsimp only
    cases hr : (s.ppu.pages.get (ppuPageOf p)).region with
    | chr =>
      rw [ppuCell_chr (by omega) hr]
      rfl
    | nt =>
      rw [ppuCell_nt (by omega) hr]
      rfl

/-- The memories with a byte put in a cell. -/
def putCell (c : PpuCell) (d : Byte) (m : Mems) : Mems :=
  match c with
  | .pal k => { m with pal := m.pal.write k d }
  | .chr k => { m with chr := m.chr.write k d }
  | .nt k => { m with nt := m.nt.write k d }

theorem read_putCell_self {m : Mems} (hm : m.wf = true) (c : PpuCell) (d : Byte) : c.read (putCell c d m) = d := by
  obtain ⟨-, -, -, hchr, hnt, -, hpal⟩ := (Mems.wf_iff m).mp hm
  cases c with
  | pal k => exact Memory.read_write_self hpal k d
  | chr k => exact Memory.read_write_self hchr k d
  | nt k => exact Memory.read_write_self hnt k d

theorem read_putCell_other {c c' : PpuCell} (h : c' ≠ c) (d : Byte) (m : Mems) : c'.read (putCell c d m) = c'.read m := by
  cases c with
  | pal k =>
    cases c' with
    | pal j => exact Memory.read_write_other _ d fun e => h (congrArg PpuCell.pal e)
    | chr | nt => rfl
  | chr k =>
    cases c' with
    | chr j => exact Memory.read_write_other _ d fun e => h (congrArg PpuCell.chr e)
    | pal | nt => rfl
  | nt k =>
    cases c' with
    | nt j => exact Memory.read_write_other _ d fun e => h (congrArg PpuCell.nt e)
    | pal | chr => rfl

theorem putCell_frame (c : PpuCell) (d : Byte) (m : Mems) :
    putCell c d m = { m with pal := (putCell c d m).pal, chr := (putCell c d m).chr, nt := (putCell c d m).nt } := by
  cases c <;> rfl

section
variable {p : PpuAddr} {s : State}

/-- The palette keeps 6 bits (R402). -/
theorem ppuWrite_palette (h : 0x3F00 ≤ p.toNat) (d : Byte) :
    ppuWrite p d s = { s with mem := putCell (ppuCell p s) (d &&& 0x3F) s.mem } := by
  rw [ppuCell_palette h]
  exact if_pos h

theorem ppuWrite_ram (h : p.toNat < 0x3F00) (hram : (s.ppu.pages.get (ppuPageOf p)).region = .nt ∨ s.cart.chrBanks = 0) (d : Byte) :
    ppuWrite p d s = { s with mem := putCell (ppuCell p s) d s.mem } := by
  unfold ppuWrite
  rw [if_neg (by omega)]
  dsimp only
  cases hr : (s.ppu.pages.get (ppuPageOf p)).region with
  | chr =>
    have hbanks : s.cart.chrBanks = 0 := hram.resolve_left (hr ▸ nofun)
    rw [ppuCell_chr h hr]
    exact if_pos hbanks
  | nt =>
    rw [ppuCell_nt h hr]
    rfl

/-- A write to CHR-ROM is discarded (R402). -/
theorem ppuWrite_rom (h : p.toNat < 0x3F00) (hr : (s.ppu.pages.get (ppuPageOf p)).region = .chr) (hrom : s.cart.chrBanks ≠ 0)
    (d : Byte) : ppuWrite p d s = s := by
  unfold ppuWrite
  rw [if_neg (by omega)]
  dsimp only
  rw [hr]
  exact if_neg hrom

/-- A write through the PPU's map is discarded or puts one byte in the cell of its address. -/
theorem ppuWrite_cases (p : PpuAddr) (d : Byte) (s : State) :
    ppuWrite p d s = s ∨ ∃ x, ppuWrite p d s = { s with mem := putCell (ppuCell p s) x s.mem } := by
  by_cases h : 0x3F00 ≤ p.toNat
  · exact .inr ⟨_, ppuWrite_palette h d⟩
  · by_cases hram : (s.ppu.pages.get (ppuPageOf p)).region = .nt ∨ s.cart.chrBanks = 0
    · exact .inr ⟨d, ppuWrite_ram (by omega) hram d⟩
    · obtain ⟨hnt, hrom⟩ := not_or.mp hram
      have hchr : (s.ppu.pages.get (ppuPageOf p)).region = .chr := by
        cases hr : (s.ppu.pages.get (ppuPageOf p)).region with
        | chr => rfl
        | nt => exact absurd hr hnt
      exact .inl (ppuWrite_rom (by omega) hchr hrom d)

/-- What is put in the cell of an address is read back there. -/
theorem ppuRead_putCell (hm : s.mem.wf = true) (d : Byte) : ppuRead p { s with mem := putCell (ppuCell p s) d s.mem } = d := by
  rw [ppuRead_eq_cell]
  exact read_putCell_self hm (ppuCell p s) d

end

/-- Settles O42: the port moves `v`, and its byte goes through the cell that the map gives the address. -/
theorem vramDataPort : Obligations.VramDataPort := by
  unfold Obligations.VramDataPort
  intro a d s hlow hhigh hreg
  rw [memRead_ppuReg hlow hhigh, ppuRegRead_vramData hreg, memWrite_ppuReg hlow hhigh, ppuRegWrite_vramData hreg, writeVramData_eq,
    ← vramAddr_eq, ← vramNext_eq]
  refine ⟨readVramData_buffered, fun hpal => ?_, rfl, ?_, fun q => ppuRead_eq_cell q s, fun c hc => ?_, fun hm hpal => ?_,
    fun hm hbelow hram => ?_, fun hbelow hchr hrom => ppuWrite_rom hbelow hchr hrom d⟩
  · rw [← nametableBelow_eq hpal]
    exact readVramData_direct hpal
  · obtain hkept | ⟨x, hput⟩ := ppuWrite_cases (vramAddr s) d s
    · rw [hkept]
    · rw [hput, ← putCell_frame]
  · obtain hkept | ⟨x, hput⟩ := ppuWrite_cases (vramAddr s) d s
    · rw [hkept]
    · rw [hput]
      exact read_putCell_other hc x s.mem
  · rw [ppuWrite_palette hpal]
    exact ppuRead_putCell hm _
  · rw [ppuWrite_ram hbelow hram]
    exact ppuRead_putCell hm d

/-! ### OAM DMA -/

/-- OAM with the bytes `i, i+1, …` of a page put in from `base` on, wrapping (R421). -/
def oamFilled (bytes : Byte → Byte) (base : Byte) : (count : Nat) → (i : Nat) → Memory → Memory
  | 0, _, m => m
  | n + 1, i, m => oamFilled bytes base n (i + 1) (m.write (base + BitVec.ofNat 8 i).toNat (bytes (BitVec.ofNat 8 i)))

/-- Places of OAM at two distances below 256 from `base` differ. -/
theorem oamPlace_ne (base : Byte) {i : Nat} {k : Byte} (hi : i < 256) (h : k.toNat ≠ i) :
    (base + k).toNat ≠ (base + BitVec.ofNat 8 i).toNat := by
  have := k.isLt
  have := base.isLt
  simp only [BitVec.toNat_add, BitVec.toNat_ofNat]
  omega

theorem read_oamFilled_before (bytes : Byte → Byte) (base : Byte) {n i : Nat} (m : Memory) {k : Byte} (hk : k.toNat < i)
    (hn : i + n ≤ 256) : (oamFilled bytes base n i m).read (base + k).toNat = m.read (base + k).toNat := by
  induction n generalizing i m with
  | zero => rfl
  | succ n ih =>
    unfold oamFilled
    rw [ih _ (by omega) (by omega)]
    exact Memory.read_write_other m _ (oamPlace_ne base (by omega) (by omega))

theorem read_oamFilled (bytes : Byte → Byte) (base : Byte) {n i : Nat} {m : Memory} (hm : m.wf = true) {k : Byte} (hlow : i ≤ k.toNat)
    (hhigh : k.toNat < i + n) (hn : i + n ≤ 256) : (oamFilled bytes base n i m).read (base + k).toNat = bytes k := by
  induction n generalizing i m with
  | zero => omega
  | succ n ih =>
    unfold oamFilled
    by_cases h : k.toNat = i
    · have hk : BitVec.ofNat 8 i = k := by
        rw [← h, BitVec.ofNat_toNat, BitVec.setWidth_eq]
      rw [read_oamFilled_before _ _ _ (by omega) (by omega), hk]
      exact Memory.read_write_self hm _ _
    · exact ih (Memory.write_wf hm _ _) (by omega) (by omega) (by omega)

theorem peek_withOam (a : Addr) (m : Memory) (s : State) : peek a { s with mem := { s.mem with oam := m } } = peek a s := by
  show (locate a s).byte _ = (locate a s).byte _
  cases locate a s <;> rfl

/-- From a page of plain memory the copy reads the page's bytes and changes OAM alone. -/
theorem oamDmaCopy_eq {d : Byte} {bytes : Byte → Byte} (n i : Nat) {s : State} (h : ∀ k : Byte, peek (d ++ k) s = some (bytes k)) :
    oamDmaCopy d n i s = { s with mem := { s.mem with oam := oamFilled bytes s.ppu.oamaddr n i s.mem.oam } } := by
  induction n generalizing i s with
  | zero => rfl
  | succ n ih =>
    unfold oamDmaCopy
    rw [show memRead (mkAddr d (BitVec.ofNat 8 i)) s = _ from memRead_of_peek (h (BitVec.ofNat 8 i))]
    exact ih (i + 1) fun k => (peek_withOam (d ++ k) _ s).trans (h k)

theorem memWrite_oamDma (d : Byte) (s : State) : memWrite 0x4014 d s = writeOamDma d s := rfl

/-- The 513 cycles and the end of the slice, on a CPU that is not refused (60_exceptions.md R352, R353). -/
theorem release_addBurn {s : State} (h : s.run.refused = false) (k : Nat) :
    release (addBurn k s) = { s with run := { s.run with burn := s.run.burn + k, remaining := 0 } } := by
  unfold release
  rw [addBurn_refused, h, addBurn, h]
  rfl

/-- The whole copy puts byte `k` of the page at `oamaddr + k`. -/
theorem oamDmaCopy_page {d : Byte} {bytes : Byte → Byte} {s : State} (hm : s.mem.wf = true)
    (h : ∀ k : Byte, peek (d ++ k) s = some (bytes k)) :
    ∃ o, oamDmaCopy d 256 0 s = { s with mem := { s.mem with oam := o } } ∧ ∀ k : Byte, o.read (s.ppu.oamaddr + k).toNat = bytes k := by
  obtain ⟨-, -, -, -, -, hoam, -⟩ := (Mems.wf_iff s.mem).mp hm
  refine ⟨_, oamDmaCopy_eq 256 0 h, fun k => read_oamFilled bytes _ hoam (Nat.zero_le _) ?_ (Nat.le_refl _)⟩
  have := k.isLt
  omega

/-- Settles O43: the copy reads 256 bytes of plain memory, which no write to OAM moves. -/
theorem oamDma : Obligations.OamDma := by
  unfold Obligations.OamDma
  intro d bytes s hm hrefused hpage
  obtain ⟨o, hcopy, hread⟩ := oamDmaCopy_page hm hpage
  rw [memWrite_oamDma, writeOamDma, hcopy, release_addBurn (by exact hrefused)]
  exact ⟨hread, rfl⟩

end Sys2Proof.Machine

/-! SUPPORT. The scanline machine and its renderer (61_ppu.md R403-R405, R425-R442): `v` field by field, the rows of the host, and the model's
pixels as the claims compose them. -/

namespace Sys2Proof.Machine

open Sys2Proof.Claims

/-! ### The fields of `v` -/

theorem getField_eq_extract (r : BitVec 15) (lo len : Nat) : getField r lo len = (r.extractLsb' lo len).toNat := by
  rw [BitVec.extractLsb'_toNat, Nat.shiftRight_eq_div_pow]
  rfl

theorem extract_putField_same (r : BitVec 15) {lo len : Nat} (h : lo + len ≤ 15) (x : Nat) :
    (putField r lo len x).extractLsb' lo len = BitVec.ofNat len x := by
  apply BitVec.eq_of_getLsbD_eq
  intro j hj
  rw [BitVec.getLsbD_extractLsb', putField_getLsbD _ _ _ _ _ (by omega), if_pos (by omega), BitVec.getLsbD_ofNat, Nat.add_sub_cancel_left]

theorem extract_putField_other (r : BitVec 15) {lo len lo' len' : Nat} (hd : lo' + len' ≤ lo ∨ lo + len ≤ lo') (h : lo' + len' ≤ 15)
    (x : Nat) : (putField r lo len x).extractLsb' lo' len' = r.extractLsb' lo' len' := by
  apply BitVec.eq_of_getLsbD_eq
  intro j hj
  rw [BitVec.getLsbD_extractLsb', putField_getLsbD _ _ _ _ _ (by omega), if_neg (by omega), BitVec.getLsbD_extractLsb']

/-- Bit 11, the vertical nametable bit, and no other. -/
theorem getLsbD_bit11 (j : Nat) : (0x0800 : BitVec 15).getLsbD j = decide (j = 11) := by
  rw [show (0x0800 : BitVec 15) = BitVec.ofNat 15 (2 ^ 11) from rfl, BitVec.getLsbD_ofNat, Nat.testBit_two_pow, Bool.eq_iff_iff]
  simp only [Bool.and_eq_true, decide_eq_true_eq]
  omega

theorem extract_flip11 (r : BitVec 15) {lo len : Nat} (h : lo + len ≤ 11 ∨ 11 < lo) :
    (r ^^^ 0x0800).extractLsb' lo len = r.extractLsb' lo len := by
  apply BitVec.eq_of_getLsbD_eq
  intro j hj
  rw [BitVec.getLsbD_extractLsb', BitVec.getLsbD_extractLsb', BitVec.getLsbD_xor, getLsbD_bit11,
    decide_eq_false (show lo + j ≠ 11 by omega), Bool.xor_false]

/-! ### The fine-Y step -/

section
variable {v : BitVec 15}

theorem fineYStep_fine (h : getField v 12 3 < 7) : fineYStep v = putField v 12 3 (getField v 12 3 + 1) := if_pos h

theorem fineYStep_flip (h7 : ¬ getField v 12 3 < 7) (h29 : getField v 5 5 = 29) :
    fineYStep v = putField (putField v 12 3 0) 5 5 0 ^^^ 0x0800 := (if_neg h7).trans (if_pos h29)

theorem fineYStep_wrap (h7 : ¬ getField v 12 3 < 7) (h31 : getField v 5 5 = 31) :
    fineYStep v = putField (putField v 12 3 0) 5 5 0 :=
  (if_neg h7).trans ((if_neg (by omega)).trans (if_pos h31))

theorem fineYStep_coarse (h7 : ¬ getField v 12 3 < 7) (h29 : getField v 5 5 ≠ 29) (h31 : getField v 5 5 ≠ 31) :
    fineYStep v = putField (putField v 12 3 0) 5 5 (getField v 5 5 + 1) :=
  (if_neg h7).trans ((if_neg h29).trans (if_neg h31))

/-- The step keeps coarse X and the horizontal nametable bit (R435). -/
theorem fineYStep_getLsbD {j : Nat} (hj : j < 5 ∨ j = 10) : (fineYStep v).getLsbD j = v.getLsbD j := by
  have hkeeps (x y : Nat) : (putField (putField v 12 3 x) 5 5 y).getLsbD j = v.getLsbD j := by
    rw [putField_getLsbD _ _ _ _ _ (by omega), putField_getLsbD _ _ _ _ _ (by omega), if_neg (by omega), if_neg (by omega)]
  by_cases h7 : getField v 12 3 < 7
  · rw [fineYStep_fine h7, putField_getLsbD _ _ _ _ _ (by omega), if_neg (by omega)]
  · by_cases h29 : getField v 5 5 = 29
    · rw [fineYStep_flip h7 h29, BitVec.getLsbD_xor, getLsbD_bit11, decide_eq_false (by omega), Bool.xor_false, hkeeps]
    · by_cases h31 : getField v 5 5 = 31
      · rw [fineYStep_wrap h7 h31, hkeeps]
      · rw [fineYStep_coarse h7 h29 h31, hkeeps]

end

/-- The bit that the step may flip lies outside the fields of `v` it sets. -/
theorem getLsbD_putField_bit11 (r : BitVec 15) (x y : Nat) : (putField (putField r 12 3 x) 5 5 y).getLsbD 11 = r.getLsbD 11 := by
  rw [putField_getLsbD _ _ _ _ _ (by decide), putField_getLsbD _ _ _ _ _ (by decide), if_neg (by decide), if_neg (by decide)]

theorem ofNat_getField_succ (r : BitVec 15) (lo len : Nat) : BitVec.ofNat len (getField r lo len + 1) = r.extractLsb' lo len + 1#len := by
  rw [getField_eq_extract, BitVec.ofNat_add, BitVec.ofNat_toNat, BitVec.setWidth_eq]

/-- Settles O47: the four cases of the step, each a chain of field updates. -/
theorem fineYStep_fields : Obligations.FineYStep := by
  unfold Obligations.FineYStep
  intro v
  have hfine : v.extractLsb' 12 3 = 7 ↔ ¬ getField v 12 3 < 7 := by
    rw [getField_eq_extract, ← BitVec.toNat_inj]
    have := (v.extractLsb' 12 3).isLt
    rw [show (7 : BitVec 3).toNat = 7 from rfl]
    omega
  have hcoarse (n : Nat) (hn : n < 32) : v.extractLsb' 5 5 = BitVec.ofNat 5 n ↔ getField v 5 5 = n := by
    rw [getField_eq_extract, ← BitVec.toNat_inj, BitVec.toNat_ofNat, Nat.mod_eq_of_lt hn]
  have hfields (x y : Nat) : (putField (putField v 12 3 x) 5 5 y).extractLsb' 12 3 = BitVec.ofNat 3 x ∧
      (putField (putField v 12 3 x) 5 5 y).extractLsb' 5 5 = BitVec.ofNat 5 y := by
    rw [extract_putField_other _ (.inr (by decide)) (by decide), extract_putField_same _ (by decide), extract_putField_same _ (by decide)]
    exact ⟨rfl, rfl⟩
  refine ⟨?_, fineYStep_getLsbD (.inr rfl), fun h7 => ?fine, fun h7 h29 => ?flip, fun h7 h31 => ?wrap, fun h7 h29 h31 => ?coarse⟩
  · apply BitVec.eq_of_getLsbD_eq
    intro j hj
    rw [BitVec.getLsbD_extractLsb', BitVec.getLsbD_extractLsb', fineYStep_getLsbD (.inl (by omega))]
  case fine =>
    rw [fineYStep_fine (not_not.mp (mt hfine.mpr h7)), extract_putField_same _ (by decide),
      extract_putField_other _ (.inl (by decide)) (by decide), putField_getLsbD _ _ _ _ _ (by decide), if_neg (by decide)]
    exact ⟨ofNat_getField_succ v 12 3, rfl, rfl⟩
  case flip =>
    obtain ⟨hf, hc⟩ := hfields 0 0
    rw [fineYStep_flip (hfine.mp h7) ((hcoarse 29 (by decide)).mp h29), extract_flip11 _ (.inr (by decide)),
      extract_flip11 _ (.inl (by decide)), BitVec.getLsbD_xor, getLsbD_bit11, getLsbD_putField_bit11]
    exact ⟨hf, hc, Bool.xor_true _⟩
  case wrap =>
    obtain ⟨hf, hc⟩ := hfields 0 0
    rw [fineYStep_wrap (hfine.mp h7) ((hcoarse 31 (by decide)).mp h31)]
    exact ⟨hf, hc, getLsbD_putField_bit11 v 0 0⟩
  case coarse =>
    obtain ⟨hf, hc⟩ := hfields 0 (getField v 5 5 + 1)
    rw [fineYStep_coarse (hfine.mp h7) (mt (hcoarse 29 (by decide)).mpr h29) (mt (hcoarse 31 (by decide)).mpr h31)]
    exact ⟨hf, hc.trans (ofNat_getField_succ v 5 5), getLsbD_putField_bit11 v 0 _⟩

/-! ### The line by its number -/

section
variable {y : Nat} {s : State}

theorem ppuScanline_render (hy : y < 240) (hr : rendering s = true) (draw : Bool) : ppuScanline y draw s = renderLine y draw s :=
  (if_pos hy).trans (if_pos hr)

theorem ppuScanline_blank (hy : y < 240) (hr : rendering s = false) (draw : Bool) : ppuScanline y draw s = blankLine y draw s :=
  (if_pos hy).trans (if_neg (show ¬ rendering s = true from hr ▸ Bool.false_ne_true))

theorem ppuScanline_idle (hy : 240 ≤ y) (h241 : y ≠ 241) (h261 : y ≠ 261) (draw : Bool) : ppuScanline y draw s = s :=
  (if_neg (by omega)).trans ((if_neg h241).trans (if_neg h261))

/-- The lines that are not visible know nothing of `DRAW_FLAG`, and write no row. -/
theorem ppuScanline_invisible (hy : 240 ≤ y) (draw : Bool) :
    ppuScanline y draw s = ppuScanline y false s ∧ (ppuScanline y draw s).host = s.host := by
  by_cases h241 : y = 241
  · subst h241
    exact ⟨rfl, rfl⟩
  · by_cases h261 : y = 261
    · subst h261
      exact ⟨rfl, rfl⟩
    · rw [ppuScanline_idle hy h241 h261, ppuScanline_idle hy h241 h261]
      exact ⟨rfl, rfl⟩

end

theorem writeRow_eq (draw : Bool) (y : Nat) (row : List Byte) (s : State) :
    writeRow draw y row s =
      { s with host := { s.host with screen := if draw then putRow s.host.screen y row else s.host.screen } } := by
  cases draw <;> rfl

/-- Settles O44: the lines by their numbers, and the two branches of the line end. -/
theorem scanlineStates : Obligations.ScanlineStates := by
  unfold Obligations.ScanlineStates
  intro y draw s
  refine ⟨?_, ?_, fun hy h241 h261 => ppuScanline_idle hy h241 h261 draw, fun hy hr => ?_, fun hnot => if_neg hnot,
    fun hy hr => if_pos ⟨hy, hr⟩⟩
  · rintro rfl
    rfl
  · rintro rfl
    rfl
  · rw [ppuScanline_blank hy hr, blankLine, writeRow_eq]

/-! ### Background pixels -/

/-- A bit of a byte as a number. -/
theorem ite_getLsbD (b : Byte) (k m : Nat) : (if b.getLsbD k then m else 0) = m * (b.toNat / 2 ^ k % 2) := by
  rw [← BitVec.testBit_toNat, Nat.testBit_eq_decide_div_mod_eq]
  by_cases h : b.toNat / 2 ^ k % 2 = 1
  · rw [if_pos (decide_eq_true h), h, Nat.mul_one]
  · rw [if_neg (by simpa using h), show b.toNat / 2 ^ k % 2 = 0 by omega, Nat.mul_zero]

theorem tilePixel_eq (table tile r c : Nat) (s : State) : tilePixel table tile r c s = patternAt s table tile r c := by
  unfold tilePixel patternPixel patternAt
  dsimp only
  rw [ite_getLsbD, ite_getLsbD, Nat.one_mul]
  rfl

/-- The neighbour of a nametable across the horizontal border (R429). -/
theorem nametable_xor_one : ∀ q < 4, q ^^^ 1 = if q % 2 = 0 then q + 1 else q - 1 := by decide

theorem nametable_crossed {q : Nat} (hq : q < 4) (across : Nat) :
    q ^^^ (if 32 ≤ across then 1 else 0) = if across < 32 then q else if q % 2 = 0 then q + 1 else q - 1 := by
  by_cases h : across < 32
  · rw [if_neg (by omega), if_pos h, Nat.xor_zero]
  · rw [if_pos (by omega), if_neg h, nametable_xor_one q hq]

/-- The fetch gives the claim's pattern pixel and palette number (R429). -/
theorem bgFetch_eq (s : State) (x : Nat) : bgFetch s x = ⟨(backgroundAt s x).1, (backgroundAt s x).2⟩ := by
  have hv := s.ppu.v.isLt
  have hcx : getField s.ppu.v 0 5 = s.ppu.v.toNat % 32 := congrArg (· % 32) (Nat.div_one s.ppu.v.toNat)
  have hfine : getField s.ppu.v 12 3 = s.ppu.v.toNat / 4096 := Nat.mod_eq_of_lt (show s.ppu.v.toNat / 4096 < 8 by omega)
  have hn := nametable_crossed (show getField s.ppu.v 10 2 < 4 from Nat.mod_lt _ (by decide))
    (s.ppu.v.toNat % 32 + (s.ppu.fineX.toNat + x) / 8)
  unfold bgFetch
  dsimp only
  rw [tilePixel_eq, hcx, hfine, hn]
  rfl

theorem bgOpaque_eq (s : State) (x : Nat) : bgOpaque s x = backgroundOpaque s x := by
  unfold bgOpaque backgroundOpaque
  rw [bgFetch_eq, Bool.or_comm (decide (8 ≤ x))]

/-- The background's colour is one palette byte: its own, or the backdrop (R430). -/
theorem bgColour_eq (s : State) (x : Nat) :
    bgColour s x = s.mem.pal.read (if backgroundOpaque s x then 4 * (backgroundAt s x).2 + (backgroundAt s x).1 else 0) := by
  unfold bgColour
  rw [bgOpaque_eq, bgFetch_eq]
  split <;> rfl

/-! ### Sprites -/

theorem spriteInRange_eq (s : State) (y : Nat) : spriteInRange s y = onLine s y := by
  funext i
  unfold spriteInRange onLine
  dsimp only
  rw [Bool.eq_iff_iff]
  simp only [Bool.and_eq_true, decide_eq_true_eq]
  show (spriteByte s i 0 + 1 ≤ y ∧ y - (spriteByte s i 0 + 1) < height s) ↔ spriteByte s i 0 + 1 ≤ y ∧ y < spriteByte s i 0 + 1 + height s
  omega

theorem spritesInRange_length (s : State) (y : Nat) : (spritesInRange s y).length = spritesOn s y := by
  rw [spritesInRange, spriteInRange_eq, ← List.countP_eq_length_filter]
  rfl

/-- The first `k` numbers below `n` with a property are those with it and fewer than `k` before them. -/
theorem take_filter_range (p : Nat → Bool) (k n : Nat) :
    ((List.range n).filter p).take k = (List.range n).filter fun i => p i && decide ((List.range i).countP p < k) := by
  induction n with
  | zero => exact List.take_nil
  | succ n ih =>
    rw [List.range_succ, List.filter_append, List.filter_append, List.take_append, ih, ← List.countP_eq_length_filter]
    congr 1
    cases hp : p n with
    | false => simp [hp]
    | true =>
      by_cases hk : (List.range n).countP p < k
      · simp [hp, hk, List.take_of_length_le (show [n].length ≤ k - (List.range n).countP p by simp; omega)]
      · simp [hp, hk, Nat.sub_eq_zero_of_le (Nat.not_lt.mp hk)]

/-- The sprites selected are those the claim draws (R431). -/
theorem selectedSprites_eq (s : State) (y : Nat) : selectedSprites s y = (List.range 64).filter (drawnOn s y) := by
  rw [selectedSprites, spritesInRange, spriteInRange_eq, take_filter_range]
  rfl

theorem spriteHeight_eq_8 (s : State) : spriteHeight s = 8 ↔ ¬ s.ppu.ctrl0.getLsbD 5 = true := by
  unfold spriteHeight
  simp

theorem getLsbD_eq_true_iff (b : Byte) (k : Nat) : b.getLsbD k = true ↔ b.toNat / 2 ^ k % 2 = 1 := by
  rw [← BitVec.testBit_toNat, Nat.testBit_eq_decide_div_mod_eq, decide_eq_true_eq]

/-- The model's sprite pixel is the claim's: the same tile, row and column (R432). -/
theorem spritePixel_eq (s : State) (y i x : Nat) : spritePixel s y i x = spriteAt s y i x := by
  have hbytes (k : Nat) : (oamByte s i k).toNat = spriteByte s i k := rfl
  have hright : spriteByte s i 3 + 7 < x ↔ spriteByte s i 3 + 8 ≤ x := Iff.rfl
  unfold spritePixel spriteAt
  simp only [tilePixel_eq, spriteHeight_eq_8, ite_not, getLsbD_eq_true_iff (oamByte s i 2), hbytes, hright,
    Nat.mul_comm _ 0x1000, Nat.mul_comm _ 2]
  rfl

theorem spriteOpaque_eq (s : State) (y x : Nat) : spriteOpaque s y x = spriteShows s y x := by
  funext i
  unfold spriteOpaque spriteShows
  rw [spritePixel_eq, Bool.or_comm (decide (8 ≤ x))]

theorem frontSprite_eq (s : State) (y x : Nat) :
    frontSprite s y x = (List.range 64).find? fun i => drawnOn s y i && spriteShows s y x i := by
  rw [frontSprite, selectedSprites_eq, spriteOpaque_eq, List.find?_filter]
  simp only [Bool.decide_and, Bool.decide_eq_true]

theorem sprite0Opaque_eq (s : State) (y x : Nat) : sprite0Opaque s y x = (drawnOn s y 0 && spriteShows s y x 0) := by
  rw [sprite0Opaque, selectedSprites_eq, spriteOpaque_eq]
  congr 1
  rw [Bool.eq_iff_iff, List.contains_iff_mem, List.mem_filter]
  exact and_iff_right (List.mem_range.mpr (by decide))

/-! ### Composed pixels -/

/-- The two markers above the six colour bits (R441). -/
theorem pixelByte_eq (transparent sprite : Bool) (colour : Byte) :
    pixelByte transparent sprite colour = BitVec.ofBool transparent ++ BitVec.ofBool sprite ++ colour.extractLsb' 0 6 := by
  apply BitVec.eq_of_getLsbD_eq
  intro j hj
  unfold pixelByte
  rw [BitVec.getLsbD_or, BitVec.getLsbD_or, BitVec.getLsbD_and, bitAt_getLsbD _ (by decide), bitAt_getLsbD _ (by decide), getLsbD_mask6,
    BitVec.getLsbD_append, BitVec.getLsbD_append, BitVec.getLsbD_ofBool, BitVec.getLsbD_ofBool, BitVec.getLsbD_extractLsb', Nat.zero_add]
  by_cases hcolour : j < 6
  · rw [if_pos hcolour, decide_eq_false (show j ≠ 7 by omega), decide_eq_false (show j ≠ 6 by omega), decide_eq_true hcolour]
    simp
  · rw [if_neg hcolour, decide_eq_false hcolour]
    obtain rfl | rfl : j = 6 ∨ j = 7 := by omega
    · simp
    · simp

theorem markedPixel_eq (s : State) (transparent sprite : Bool) (index : Nat) :
    markedPixel s transparent sprite index = pixelByte transparent sprite (s.mem.pal.read index) := (pixelByte_eq _ _ _).symm

/-- The pixel composed by the model is the claim's (R434). -/
theorem composedPixel_eq (s : State) (y x : Nat) : composedPixel s y x = pixelAt s y x := by
  unfold composedPixel pixelAt
  simp only [frontSprite_eq, bgOpaque_eq, bgColour_eq, spritePixel_eq, markedPixel_eq]
  cases (List.range 64).find? fun i => drawnOn s y i && spriteShows s y x i with
  | none => rfl
  | some i =>
    have hbehind : spriteByte s i 2 / 32 % 2 = 1 ↔ (oamByte s i 2).getLsbD 5 = true := (getLsbD_eq_true_iff (oamByte s i 2) 5).symm
    dsimp only
    by_cases h : (oamByte s i 2).getLsbD 5 = true ∧ backgroundOpaque s x = true
    · rw [if_pos (show spriteByte s i 2 / 32 % 2 = 1 ∧ _ from ⟨hbehind.mpr h.1, h.2⟩), if_neg (by rw [h.1, h.2]; decide)]
    · rw [if_neg (mt (And.imp_left hbehind.mp) h), if_pos (by simpa [imp_iff_not_or] using h)]
      rfl

/-! ### The strike and the overflow -/

theorem firstOverlap_eq (s : State) (y : Nat) : firstOverlap s y = (List.range 255).find? (overlap s y) := by
  unfold firstOverlap
  congr 1
  funext x
  rw [sprite0Opaque_eq, bgOpaque_eq]
  rfl

/-- An overlap needs the background and the sprites enabled. -/
theorem enabled_of_overlap {s : State} {y x : Nat} (h : overlap s y x = true) :
    s.ppu.ctrl1.getLsbD 3 = true ∧ s.ppu.ctrl1.getLsbD 4 = true := by
  simp only [overlap, spriteShows, backgroundOpaque, Bool.and_eq_true] at h
  obtain ⟨⟨-, ⟨hsprites, -⟩, -⟩, ⟨hbackground, -⟩, -⟩ := h
  exact ⟨hbackground, hsprites⟩

theorem detectStrike_of_set {s : State} (h : s.ppu.strikeFlag = true) (y : Nat) : detectStrike y s = s := by
  unfold detectStrike
  rw [h]
  rfl

theorem detectStrike_of_none {s : State} {y : Nat} (h : ∀ x, x < 255 → overlap s y x = false) : detectStrike y s = s := by
  have hnone : firstOverlap s y = none := by
    rw [firstOverlap_eq, List.find?_range_eq_none]
    intro x hx
    rw [h x hx]
    rfl
  unfold detectStrike
  rw [hnone]
  split <;> rfl

theorem detectStrike_of_first {s : State} {y x : Nat} (hset : s.ppu.strikeFlag = false) (hx : x < 255) (h : overlap s y x = true)
    (hfirst : ∀ x', x' < x → overlap s y x' = false) :
    detectStrike y s = { s with ppu := { s.ppu with strikeFlag := true, strikeCycle := s.run.cycles + x / 3 } } := by
  have hsome : firstOverlap s y = some x := by
    rw [firstOverlap_eq, List.find?_range_eq_some]
    refine ⟨h, List.mem_range.mpr hx, fun x' hx' => ?_⟩
    rw [hfirst x' hx']
    rfl
  obtain ⟨hbackground, hsprites⟩ := enabled_of_overlap h
  unfold detectStrike
  rw [hsome, hset, hbackground, hsprites]
  rfl

/-- Strike detection sets the flag and its time alone. -/
theorem detectStrike_frame (y : Nat) (s : State) :
    detectStrike y s = { s with ppu := { s.ppu with
      strikeFlag := (detectStrike y s).ppu.strikeFlag, strikeCycle := (detectStrike y s).ppu.strikeCycle } } := by
  unfold detectStrike
  split
  · split <;> rfl
  · rfl

theorem detectOverflow_eq (y : Nat) (s : State) :
    detectOverflow y s = { s with ppu := { s.ppu with overflow := s.ppu.overflow || decide (9 ≤ spritesOn s y) } } := by
  unfold detectOverflow
  rw [spritesInRange_length]
  by_cases h : 8 < spritesOn s y
  · rw [if_pos h, decide_eq_true (show 9 ≤ spritesOn s y from h), Bool.or_true]
  · rw [if_neg h, decide_eq_false (show ¬ 9 ≤ spritesOn s y from h), Bool.or_false]

/-! ### A visible line -/

/-- The state with `v` as the start of line `y` leaves it (R428). -/
def lineStarted (y : Nat) (s : State) : State := { s with ppu := { s.ppu with v := lineStartV y s.ppu.v s.ppu.t } }

theorem lineStartV_getLsbD (y : Nat) (v t : BitVec 15) {j : Nat} (hj : j < 15) :
    (lineStartV y v t).getLsbD j = if y = 0 ∨ j < 5 ∨ j = 10 then t.getLsbD j else v.getLsbD j := by
  have hbit (lo len : Nat) (h : lo ≤ j ∧ j < lo + len) : (getField t lo len).testBit (j - lo) = t.getLsbD j := by
    rw [getField_eq_extract, BitVec.testBit_toNat, BitVec.getLsbD_extractLsb', decide_eq_true (by omega), Bool.true_and,
      Nat.add_sub_cancel' h.1]
  unfold lineStartV
  by_cases hy : y = 0
  · rw [if_pos hy, if_pos (.inl hy)]
  · rw [if_neg hy, putField_getLsbD _ _ _ _ _ hj, putField_getLsbD _ _ _ _ _ hj]
    by_cases hx : j < 5
    · rw [if_pos (by omega), if_pos (.inr (.inl hx)), hbit 0 5 (by omega)]
    · rw [if_neg (by omega)]
      by_cases hn : j = 10
      · rw [if_pos (by omega), if_pos (.inr (.inr hn)), hbit 10 1 (by omega)]
      · rw [if_neg (by omega), if_neg (by omega)]

/-- The row of a visible line as the claims compose it. -/
def lineRow (y : Nat) (s : State) : List Byte :=
  if rendering s then (List.range 256).map (pixelAt (lineStarted y s) y) else List.replicate 256 (markedPixel s true false 0)

/-- Drawing a visible line adds its row to the same line skipped (R438). -/
theorem ppuScanline_visible {y : Nat} (hy : y < 240) (draw : Bool) (s : State) :
    ppuScanline y draw s = writeRow draw y (lineRow y s) (ppuScanline y false s) := by
  cases hr : rendering s with
  | true =>
    rw [ppuScanline_render hy hr, ppuScanline_render hy hr, lineRow, hr, if_pos rfl, renderLine,
      funext (composedPixel_eq { s with ppu := { s.ppu with v := lineStartV y s.ppu.v s.ppu.t } } y)]
    rfl
  | false =>
    rw [ppuScanline_blank hy hr, ppuScanline_blank hy hr, lineRow, hr, if_neg Bool.false_ne_true, markedPixel_eq]
    rfl

/-- A visible line with rendering enabled, field by field. -/
theorem ppuScanline_rendered {y : Nat} {s : State} (hy : y < 240) (hr : rendering s = true) (draw : Bool) :
    ppuScanline y draw s = { s with
      ppu := { s.ppu with
        v := lineStartV y s.ppu.v s.ppu.t
        overflow := s.ppu.overflow || decide (9 ≤ spritesOn s y)
        strikeFlag := (detectStrike y (lineStarted y s)).ppu.strikeFlag
        strikeCycle := (detectStrike y (lineStarted y s)).ppu.strikeCycle }
      host := { s.host with screen := if draw then putRow s.host.screen y (lineRow y s) else s.host.screen } } := by
  have hskipped : ppuScanline y false s = detectOverflow y (detectStrike y (lineStarted y s)) := ppuScanline_render hy hr false
  rw [ppuScanline_visible hy, writeRow_eq, hskipped, detectOverflow_eq, detectStrike_frame]
  rfl

/-- Settles O45: the strike by its three cases, the other registers field by field. -/
theorem strikeAndOverflow : Obligations.StrikeAndOverflow := by
  unfold Obligations.StrikeAndOverflow
  intro y draw s hy hr
  rw [ppuScanline_rendered hy hr]
  refine ⟨rfl, fun j hj => lineStartV_getLsbD y _ _ hj, rfl, fun hset => ?_, fun hunset => ⟨fun x hx hover hfirst => ?_, fun hnone => ?_⟩⟩
  · rw [detectStrike_of_set (s := lineStarted y s) hset]
    exact ⟨hset, rfl⟩
  · rw [detectStrike_of_first (s := lineStarted y s) hunset hx hover hfirst]
    exact ⟨rfl, rfl⟩
  · rw [detectStrike_of_none (s := lineStarted y s) hnone]
    exact ⟨hunset, rfl⟩

/-! ### The rows of the host -/

theorem lookup_putRow_self (rows : List (Nat × List Byte)) (y : Nat) (row : List Byte) : (putRow rows y row).lookup y = some row := by
  induction rows with
  | nil => exact List.lookup_cons_self
  | cons head rest ih =>
    obtain ⟨k, old⟩ := head
    unfold putRow
    split
    · exact List.lookup_cons_self
    · split
      · exact List.lookup_cons_self
      · next hne => rw [List.lookup_cons, beq_false_of_ne hne, ih]

theorem lookup_putRow_other (rows : List (Nat × List Byte)) {y y' : Nat} (h : y' ≠ y) (row : List Byte) :
    (putRow rows y row).lookup y' = rows.lookup y' := by
  have hskip (rest : List (Nat × List Byte)) : ((y, row) :: rest).lookup y' = rest.lookup y' := by
    rw [List.lookup_cons, beq_false_of_ne h]
  induction rows with
  | nil => exact hskip []
  | cons head rest ih =>
    obtain ⟨k, old⟩ := head
    unfold putRow
    split
    · exact hskip _
    · split
      · next heq =>
        subst heq
        rw [hskip, List.lookup_cons, beq_false_of_ne h]
      · rw [List.lookup_cons, List.lookup_cons, ih]

/-- A line skipped writes no row. -/
theorem ppuScanline_skipped_host (y : Nat) (s : State) : (ppuScanline y false s).host = s.host := by
  by_cases hy : y < 240
  · cases hr : rendering s with
    | true => rw [ppuScanline_rendered hy hr, if_neg Bool.false_ne_true]
    | false =>
      rw [ppuScanline_blank hy hr]
      rfl
  · exact (ppuScanline_invisible (Nat.not_lt.mp hy) false).2

/-- A visible line drawn is the line skipped with its row put in. -/
theorem ppuScanline_drawn {y : Nat} (hy : y < 240) (s : State) :
    ppuScanline y true s =
      { ppuScanline y false s with host := { s.host with screen := putRow s.host.screen y (lineRow y s) } } := by
  rw [ppuScanline_visible hy true, writeRow_eq, ppuScanline_skipped_host]
  rfl

/-- Settles O46: only a visible line is drawn, and then its row is put in. -/
theorem drawFlagOnlyDraws : Obligations.DrawFlagOnlyDraws := by
  unfold Obligations.DrawFlagOnlyDraws
  intro y s
  have hskipped := ppuScanline_skipped_host y s
  by_cases hy : y < 240
  · have hdrawn := ppuScanline_drawn hy s
    have hhost : (ppuScanline y true s).host = { s.host with screen := putRow s.host.screen y (lineRow y s) } := by rw [hdrawn]
    refine ⟨by rw [hdrawn], hskipped, fun draw => ?_, fun _ hr => ?_, fun _ hr => ?_, fun y' hne => ?_, fun hge => absurd hy (by omega)⟩
    · cases draw with
      | false => rw [hskipped]
      | true => rw [hhost]
    · rw [hhost, lookup_putRow_self, lineRow, hr, if_pos rfl, ppuScanline_rendered hy hr]
      rfl
    · rw [hhost, lookup_putRow_self, lineRow, hr, if_neg Bool.false_ne_true]
    · rw [hhost]
      exact lookup_putRow_other s.host.screen hne _
  · obtain ⟨hsame, -⟩ := ppuScanline_invisible (s := s) (Nat.not_lt.mp hy) true
    have hhost (draw : Bool) : (ppuScanline y draw s).host = s.host := (ppuScanline_invisible (Nat.not_lt.mp hy) draw).2
    refine ⟨by rw [hsame], hskipped, fun draw => by rw [hhost], fun h => absurd h hy, fun h => absurd h hy, fun y' _ => ?_,
      fun _ => hhost true⟩
    rw [hhost]

end Sys2Proof.Machine

/-! SUPPORT. The APU's registers on the bus (62_apu.md R460-R467, R477) and one DMC fetch (R476). -/

namespace Sys2Proof.Machine

open Sys2Proof.Claims

/-! ### Register writes -/

/-- The low bits of a byte written, as a number (R466, R477). -/
theorem lowBits_eq_ofNat (d : Byte) (n : Nat) : d.extractLsb' 0 n = BitVec.ofNat n d.toNat :=
  BitVec.eq_of_toNat_eq (by rw [BitVec.extractLsb'_toNat, BitVec.toNat_ofNat, Nat.shiftRight_zero])

/-- Settles O48: each address names a channel and a register by its bits. -/
theorem apuRegisterWrites : Obligations.ApuRegisterWrites := by
  unfold Obligations.ApuRegisterWrites
  intro d s
  refine ⟨rfl, rfl, rfl, rfl, rfl, rfl, rfl, rfl, rfl, rfl, rfl, rfl, rfl, rfl, rfl, rfl, rfl, ?_, rfl, rfl⟩
  rw [← lowBits_eq_ofNat]
  rfl

/-! ### $4015 and the reads -/

theorem memWrite_apuEnable (d : Byte) (s : State) : memWrite 0x4015 d s = writeApuEnable d s := rfl

/-- $4000-$4015 reads are APU reads (20_memory.md R136). -/
theorem memRead_apu {a : Addr} (hlow : 0x4000 ≤ a.toNat) (hhigh : a.toNat ≤ 0x4015) (s : State) : memRead a s = apuRead a s := by
  have hhandler : readTable.lookup a.toNat = some .apu := by
    simp only [readTable, HandlerTable.lookup]
    rw [if_neg (by omega), if_neg (by omega), if_pos ⟨hlow, hhigh⟩]
  rw [memRead, if_neg (by omega), if_neg (by omega), hhandler]
  rfl

/-- The write-only registers read as draws (R467). -/
theorem apuRead_writeOnly {a : Addr} (h : a.toNat ≠ 0x4015) (s : State) : apuRead a s = takeDraw s := if_neg h

theorem apuRead_status (s : State) :
    apuRead 0x4015 s =
      (apuStatusBits s ||| (Config.draw s.draws &&& 0x20), { s with fiq := { s.fiq with occurred := false }, draws := s.draws + 1 }) := rfl

theorem getLsbD_mask20 (j : Nat) : (0x20 : Byte).getLsbD j = decide (j = 5) := bitAt_getLsbD true (by decide : 5 < 8) j

/-- The byte a read of $4015 gives, bit by bit (R467). -/
theorem apuRead_status_getLsbD (s : State) (j : Nat) :
    (apuRead 0x4015 s).1.getLsbD j =
      (s.apu.dmc.irq && decide (j = 7) || s.fiq.occurred && decide (j = 6) || decide (0 < s.apu.dmc.remaining) && decide (j = 4) ||
        decide (0 < s.apu.noise.length) && decide (j = 3) || decide (0 < s.apu.tri.length) && decide (j = 2) ||
        decide (0 < s.apu.rect1.length) && decide (j = 1) || decide (0 < s.apu.rect0.length) && decide (j = 0) ||
        (Config.draw s.draws).getLsbD j && decide (j = 5)) := by
  rw [apuRead_status]
  simp only [apuStatusBits, BitVec.getLsbD_or, BitVec.getLsbD_and, getLsbD_mask20, bitAt_getLsbD _ (show 7 < 8 by decide),
    bitAt_getLsbD _ (show 6 < 8 by decide), bitAt_getLsbD _ (show 4 < 8 by decide), bitAt_getLsbD _ (show 3 < 8 by decide),
    bitAt_getLsbD _ (show 2 < 8 by decide), bitAt_getLsbD _ (show 1 < 8 by decide), bitAt_getLsbD _ (show 0 < 8 by decide)]

/-- The start of the DMC sample, as a number (R466). -/
theorem startAddr_eq (c : Dmc) : c.startAddr = BitVec.ofNat 16 (0xC000 + 64 * c.reg2.toNat) := (BitVec.ofNat_add _ _).symm

theorem restart_eq (c : Dmc) :
    c.restart = { c with addr := BitVec.ofNat 16 (0xC000 + 64 * c.reg2.toNat), remaining := 16 * c.reg3.toNat + 1 } := by
  rw [Dmc.restart, startAddr_eq, Dmc.startLength]

/-- The DMC after a $4015 write: stopped, started from the beginning, or left playing (R466). -/
theorem enableWrite_eq (c : Dmc) (on : Bool) :
    c.enableWrite on = { c with
      irq := false
      addr := if on ∧ c.remaining = 0 then BitVec.ofNat 16 (0xC000 + 64 * c.reg2.toNat) else c.addr
      remaining := if on then (if c.remaining = 0 then 16 * c.reg3.toNat + 1 else c.remaining) else 0 } := by
  cases on with
  | false => rfl
  | true =>
    rw [Dmc.enableWrite, restart_eq]
    by_cases h : c.remaining = 0
    · simp only [h, if_true, true_and]
    · simp only [h, if_true, if_false, and_false]

/-- Settles O49: the write field by field, the status byte bit by bit. -/
theorem apuEnableAndStatus : Obligations.ApuEnableAndStatus := by
  unfold Obligations.ApuEnableAndStatus
  intro d s
  refine ⟨?_, ?_, fun a hlow hhigh => ?_⟩
  · rw [memWrite_apuEnable, writeApuEnable, enableWrite_eq, lowBits_eq_ofNat]
    rfl
  · rw [memRead_apu (by decide) (by decide)]
    simp only [apuRead_status_getLsbD]
    exact ⟨by simp, by simp, by simp, by simp, by simp, by simp, by simp, by simp, rfl⟩
  · rw [memRead_apu hlow (Nat.le_of_lt hhigh), apuRead_writeOnly (Nat.ne_of_lt hhigh)]
    rfl

/-! ### One DMC fetch -/

theorem nextSampleAddr_eq (a : Addr) : nextSampleAddr a = if a = 0xFFFF then 0x8000 else BitVec.ofNat 16 (a.toNat + 1) := by
  rw [nextSampleAddr, BitVec.ofNat_add, BitVec.ofNat_toNat, BitVec.setWidth_eq]
  rfl

/-- The DMC with the byte `b` read and its bits queued, before the end of the sample is looked for (R476; log 7). -/
def Dmc.queued (c : Dmc) (b : Byte) : Dmc :=
  { c with
    addr := if c.addr = 0xFFFF then 0x8000 else BitVec.ofNat 16 (c.addr.toNat + 1)
    remaining := c.remaining - 1
    bits := c.bits ++ (List.range 8).map (fun k => b.getLsbD k) }

/-- The state with another DMC and one cycle more owed. -/
def withFetched (q : Dmc) (s : State) : State :=
  { s with apu := { s.apu with dmc := q }, run := { s.run with burn := s.run.burn + 1 } }

/-- A fetch of a plain byte, by what the end of the sample asks for. -/
theorem dmcFetch_of_peek {s : State} {b : Byte} (hrefused : s.run.refused = false) (hpeek : peek s.apu.dmc.addr s = some b) :
    dmcFetch s =
      if s.apu.dmc.remaining - 1 = 0 then
        if s.apu.dmc.reg0.getLsbD 6 then withFetched (s.apu.dmc.queued b).restart s
        else if s.apu.dmc.reg0.getLsbD 7 then irq (withFetched { s.apu.dmc.queued b with irq := true } s)
        else withFetched (s.apu.dmc.queued b) s
      else withFetched (s.apu.dmc.queued b) s := by
  have hburn : addBurn 1 s = { s with run := { s.run with burn := s.run.burn + 1 } } := by
    rw [addBurn, hrefused]
    rfl
  rw [dmcFetch, memRead_of_peek hpeek, nextSampleAddr_eq, hburn]
  rfl

/-- Settles O50: the four endings are the branches of the fetch. -/
theorem dmcFetch_endings : Obligations.DmcFetch := by
  unfold Obligations.DmcFetch
  intro s b hrefused hpeek hremaining
  have hfetch := dmcFetch_of_peek hrefused hpeek
  refine ⟨fun hmore => ?_, fun hlast hloop => ?_, fun hlast honce hirq => ?_, fun hlast honce hquiet => ?_⟩
  · rw [hfetch, if_neg (by omega)]
    rfl
  · rw [hfetch, if_pos (by omega), if_pos hloop, restart_eq]
    rfl
  · rw [hfetch, if_pos (by omega), if_neg (Bool.eq_false_iff.mp honce), if_pos hirq]
    rfl
  · rw [hfetch, if_pos (by omega), if_neg (Bool.eq_false_iff.mp honce), if_neg (Bool.eq_false_iff.mp hquiet)]
    rfl

end Sys2Proof.Machine

/-! SUPPORT. The mix call over any number of samples (62_apu.md R464-R476): the length countdown as one division, the counters after `n`
samples as an invariant of one more sample, and what one sample is made of. -/

namespace Sys2Proof.Machine

open Sys2Proof.Claims

/-! ### The length countdown -/

theorem countdown_zero (k : Nat) : countdown k 0 = 0 := Nat.sub_self _

/-- The steps of `n + 1` samples are those of the first `n` and of the last. -/
theorem countdown_succ (k n : Nat) : countdown k (n + 1) = countdown k n + lengthTicks (k + n) := by
  have hfirst : (60 * k + Config.lengthPhase) / Config.sampleRate ≤ (60 * (k + n) + Config.lengthPhase) / Config.sampleRate :=
    Nat.div_le_div_right (by omega)
  have hlast : (60 * (k + n) + Config.lengthPhase) / Config.sampleRate ≤ (60 * (k + n + 1) + Config.lengthPhase) / Config.sampleRate :=
    Nat.div_le_div_right (by omega)
  rw [countdown, countdown, lengthTicks, ← Nat.add_assoc]
  omega

/-- A second of samples holds 60 steps (R464). -/
theorem countdown_sampleRate (k : Nat) : countdown k Config.sampleRate = if Config.sampleRate = 0 then 0 else 60 := by
  unfold countdown
  generalize Config.sampleRate = r
  split
  · next h => rw [h, Nat.div_zero, Nat.div_zero]
  · next h =>
    rw [show 60 * (k + r) + Config.lengthPhase = 60 * k + Config.lengthPhase + r * 60 by ring,
      Nat.add_mul_div_left _ _ (Nat.pos_of_ne_zero h), Nat.add_sub_cancel_left]

theorem counted_zero (held : Bool) (length : Nat) : counted held length 0 = length := ite_self _

theorem countLength_counted (held : Bool) (length k n : Nat) :
    countLength (k + n) held (counted held length (countdown k n)) = counted held length (countdown k (n + 1)) := by
  rw [countdown_succ]
  cases held with
  | true => rfl
  | false => exact Nat.sub_sub length _ _

/-! ### The triangle's counters -/

/-- The triangle `n` samples after sample `k`: only its counters have moved (R464, R470). -/
def Triangle.counts (c : Triangle) (k n linear : Nat) : Triangle :=
  { c with
    length := counted (c.reg0.getLsbD 7) c.length (countdown (k + min c.delay n) (n - c.delay))
    delay := counted (c.reg0.getLsbD 7) c.delay n
    linear := linear }

section
variable {c : Triangle}

theorem Triangle.counts_zero (k : Nat) : c.counts k 0 c.linear = c := by
  rw [Triangle.counts, Nat.zero_sub, countdown_zero, counted_zero, counted_zero]

theorem Triangle.counts_held (h : c.reg0.getLsbD 7 = true) (k n l : Nat) : c.counts k n l = { c with linear := l } := by
  rw [Triangle.counts, h]
  rfl

theorem Triangle.counts_delayed (h : c.reg0.getLsbD 7 = false) {n : Nat} (hn : n ≤ c.delay) (k l : Nat) :
    c.counts k n l = { c with delay := c.delay - n, linear := l } := by
  rw [Triangle.counts, h, Nat.sub_eq_zero_of_le hn, countdown_zero, counted_zero]
  rfl

theorem Triangle.counts_armed (h : c.reg0.getLsbD 7 = false) {n : Nat} (hn : c.delay ≤ n) (k l : Nat) :
    c.counts k n l = { c with length := c.length - countdown (k + c.delay) (n - c.delay), delay := 0, linear := l } := by
  rw [Triangle.counts, h, Nat.min_eq_left hn, ← Nat.sub_eq_zero_of_le hn]
  rfl

theorem Triangle.count_held (h : c.reg0.getLsbD 7 = true) (k : Nat) :
    c.count k = { c with linear := Config.linearReload c.reg0 c.linear c.delay k } := by
  rw [Triangle.count, h]
  simp only [countLength, if_true, ite_self]

theorem Triangle.count_delayed (h : c.reg0.getLsbD 7 = false) (hd : c.delay ≠ 0) (k : Nat) :
    c.count k = { c with delay := c.delay - 1 } := by
  rw [Triangle.count, h, decide_eq_false hd]
  rfl

theorem Triangle.count_armed (h : c.reg0.getLsbD 7 = false) (hd : c.delay = 0) (k : Nat) :
    c.count k = { c with
      length := c.length - lengthTicks k
      linear := if Config.linearTick k then c.linear - 1 else c.linear
      delay := 0 } := by
  rw [Triangle.count, h, decide_eq_true hd, hd]
  rfl

/-- The linear counter after one sample (R471). -/
theorem Triangle.count_linear (c : Triangle) (k : Nat) :
    (c.count k).linear = if c.reg0.getLsbD 7 then Config.linearReload c.reg0 c.linear c.delay k
      else if c.delay = 0 ∧ Config.linearTick k = true then c.linear - 1 else c.linear := by
  cases h : c.reg0.getLsbD 7 with
  | true => rw [Triangle.count_held h, if_pos rfl]
  | false =>
    rw [if_neg Bool.false_ne_true]
    by_cases hd : c.delay = 0
    · simp only [Triangle.count_armed h hd, hd, true_and]
    · rw [Triangle.count_delayed h hd, if_neg fun hand => hd hand.1]

/-- One sample more: with the counters held, with the delay running, and with the delay over (log 26). -/
theorem Triangle.count_counts (c : Triangle) (k n l : Nat) :
    (c.counts k n l).count (k + n) = c.counts k (n + 1) ((c.counts k n l).count (k + n)).linear := by
  cases h : c.reg0.getLsbD 7 with
  | true =>
    rw [Triangle.counts_held h, Triangle.counts_held h, Triangle.count_held (by exact h)]
  | false =>
    by_cases hn : n < c.delay
    · rw [Triangle.counts_delayed h (Nat.le_of_lt hn), Triangle.counts_delayed h hn,
        Triangle.count_delayed (by exact h) (by exact Nat.sub_ne_zero_of_lt hn)]
      rfl
    · have hle : c.delay ≤ n := Nat.not_lt.mp hn
      rw [Triangle.counts_armed h hle, Triangle.counts_armed h (Nat.le_succ_of_le hle), Triangle.count_armed (by exact h) rfl,
        Nat.succ_sub hle, countdown_succ, Nat.add_assoc k, Nat.add_sub_of_le hle, ← Nat.sub_sub]

end

/-! ### The counters after `n` samples -/

/-- `q` is the APU `n` samples after `p`, as far as the counters and the registers tell (R464, R470, R471, R476). -/
structure CountedFrom (p q : Apu) (n : Nat) : Prop where
  clock : q.clock = p.clock + n
  enable : q.enable = p.enable
  rect0 : q.rect0 = { p.rect0 with length := counted (p.rect0.reg0.getLsbD 5) p.rect0.length (countdown p.clock n) }
  rect1 : q.rect1 = { p.rect1 with length := counted (p.rect1.reg0.getLsbD 5) p.rect1.length (countdown p.clock n) }
  noise : q.noise = { p.noise with length := counted (p.noise.reg0.getLsbD 5) p.noise.length (countdown p.clock n) }
  tri : q.tri = p.tri.counts p.clock n q.tri.linear
  linear : p.tri.reg0.getLsbD 7 = false → n ≤ p.tri.delay → q.tri.linear = p.tri.linear
  reg3 : q.dmc.reg3 = p.dmc.reg3
  remaining : q.dmc.remaining ≤ max p.dmc.remaining (16 * p.dmc.reg3.toNat + 1)

theorem CountedFrom.zero (p : Apu) : CountedFrom p p 0 where
  clock := rfl
  enable := rfl
  rect0 := by rw [countdown_zero, counted_zero]
  rect1 := by rw [countdown_zero, counted_zero]
  noise := by rw [countdown_zero, counted_zero]
  tri := (Triangle.counts_zero p.clock).symm
  linear := fun _ _ => rfl
  reg3 := rfl
  remaining := Nat.le_max_left _ _

/-- One sample keeps the count. -/
theorem CountedFrom.generateSample {p : Apu} {s : State} {n : Nat} (h : CountedFrom p s.apu n) :
    CountedFrom p (generateSample s).apu (n + 1) := by
  obtain ⟨m, hq⟩ := generateSample_apu s
  obtain ⟨-, -, hreg3, -, hremaining⟩ := dmcFetches_apu m (countSample s.apu.clock s)
  generalize (dmcFetches m (countSample s.apu.clock s)).apu.dmc = d at hq hreg3 hremaining
  have htri : (Machine.generateSample s).apu.tri = s.apu.tri.count s.apu.clock := by rw [hq]; rfl
  have hdmc : (Machine.generateSample s).apu.dmc = d.outputBits := by rw [hq]
  have hd3 : d.reg3 = p.dmc.reg3 := hreg3.trans h.reg3
  have hdremaining : d.remaining ≤ max s.apu.dmc.remaining (16 * s.apu.dmc.reg3.toNat + 1) := hremaining
  rw [h.reg3] at hdremaining
  exact {
    clock := by rw [hq, h.clock, Nat.add_assoc]
    enable := by rw [hq]; exact h.enable
    rect0 := by rw [hq]; simp only [countSample, h.clock, h.rect0, countLength_counted]
    rect1 := by rw [hq]; simp only [countSample, h.clock, h.rect1, countLength_counted]
    noise := by rw [hq]; simp only [countSample, h.clock, h.noise, countLength_counted]
    tri := by rw [htri, h.tri, h.clock]; exact Triangle.count_counts _ _ _ _
    linear := fun hheld hn => by
      have hlinear := h.linear hheld (Nat.le_of_succ_le hn)
      rw [htri, h.tri, hlinear, Triangle.counts_delayed hheld (Nat.le_of_succ_le hn),
        Triangle.count_delayed (by exact hheld) (by exact Nat.sub_ne_zero_of_lt hn)]
    reg3 := by rw [hdmc]; exact hd3
    remaining := by
      rw [hdmc]
      exact hdremaining.trans (max_le h.remaining (Nat.le_max_right _ _)) }

theorem generateSamples_counted (n : Nat) (s : State) : CountedFrom s.apu (generateSamples n s).apu n := by
  induction n with
  | zero => exact .zero s.apu
  | succ n ih =>
    rw [generateSamples_succ]
    exact ih.generateSample

/-! ### Samples with no byte to fetch -/

/-- No DMC fetch is to be made (R476). -/
def DmcIdle (p : Apu) : Prop := p.enable.getLsbD 4 = false ∨ p.dmc.remaining = 0

theorem generateSample_idle {s : State} (h : DmcIdle s.apu) :
    generateSample s = mixSample (dmcOutputBits (countSample s.apu.clock s)) := by
  rw [generateSample, dmcSample, dmcFetches_idle _ (by exact h)]

/-- With no fetch a sample changes the APU and the buffer alone, and leaves the DMC without a fetch. -/
theorem generateSample_idle_frame {s : State} (h : DmcIdle s.apu) :
    DmcIdle (generateSample s).apu ∧
      generateSample s = { s with
        apu := (generateSample s).apu
        host := { s.host with audio := (generateSample s).host.audio } } := by
  rw [generateSample_idle h]
  exact ⟨h, rfl⟩

theorem generateSamples_idle_frame (n : Nat) {s : State} (h : DmcIdle s.apu) :
    generateSamples n s = { s with
      apu := (generateSamples n s).apu
      host := { s.host with audio := (generateSamples n s).host.audio } } := by
  induction n generalizing s with
  | zero => rfl
  | succ n ih =>
    obtain ⟨hidle, hframe⟩ := generateSample_idle_frame h
    have hrest := ih hidle
    rw [generateSamples]
    generalize generateSamples n (generateSample s) = t at hrest ⊢
    rw [hrest, hframe]

/-! ### The mix call -/

/-- A mix call writes `n` words, and is `n` samples in all else. -/
theorem apuProcess_eq (n : Nat) (s : State) :
    ∃ words : List (BitVec 16), words.length = n ∧ apuProcess n s = withAudio words (generateSamples n s) := by
  obtain ⟨words, hlength, h⟩ := generateSamples_audio n s
  exact ⟨words, hlength, h []⟩

theorem apuProcess_apu (n : Nat) (s : State) : (apuProcess n s).apu = (generateSamples n s).apu := by
  obtain ⟨words, -, h⟩ := apuProcess_eq n s
  rw [h, withAudio_apu]

/-- A mix call of one sample. -/
theorem apuProcess_one (s : State) : apuProcess 1 s = withAudio [nextOutput s] (generateSample s) := generateSample_audio [] s

/-- The word that the next sample writes does not depend on those written. -/
theorem nextOutput_audio (l : List (BitVec 16)) (s : State) : nextOutput (withAudio l s) = nextOutput s := by
  have hcount : countSample (withAudio l s).apu.clock (withAudio l s) = withAudio l (countSample s.apu.clock s) := rfl
  rw [nextOutput, hcount, dmcSample_audio]
  rfl

/-- The words of `n + 1` samples are those of `n` and that of one more. -/
theorem apuProcess_succ (n : Nat) (s : State) :
    apuProcess (n + 1) s =
      withAudio ((apuProcess n s).host.audio ++ (apuProcess 1 (apuProcess n s)).host.audio) (apuProcess 1 (apuProcess n s)) := by
  obtain ⟨words, -, h⟩ := generateSamples_audio n s
  have hn : apuProcess n s = withAudio words (generateSamples n s) := h []
  have hsucc : apuProcess (n + 1) s = generateSample (apuProcess n s) := generateSamples_succ n _
  rw [hsucc, apuProcess_one, hn, generateSample_audio, nextOutput_audio]
  rfl

theorem apuProcess_idle_frame (n : Nat) {s : State} (h : DmcIdle s.apu) :
    apuProcess n s = { s with apu := (apuProcess n s).apu, host := { s.host with audio := (apuProcess n s).host.audio } } :=
  generateSamples_idle_frame n (s := withAudio [] s) h

theorem mixCounts : MixCounts := by
  unfold MixCounts
  refine ⟨fun n s => ?_, countdown_sampleRate⟩
  have hcounted := generateSamples_counted n s
  rw [← apuProcess_apu n s] at hcounted
  have hlength : (apuProcess n s).host.audio.length = n := by
    obtain ⟨words, hwords, h⟩ := apuProcess_eq n s
    rw [h]
    exact hwords
  exact ⟨hlength, hcounted.clock, hcounted.enable, apuProcess_idle_frame n, hcounted.rect0, hcounted.rect1, hcounted.noise,
    hcounted.tri, hcounted.linear, hcounted.remaining, apuProcess_succ n s⟩

/-! ### What one sample is made of -/

theorem clampSample_eq (x : Int) : clampSample x = max (-32768) (min 32767 x) := by
  unfold clampSample
  split
  · omega
  · split <;> omega

/-- A clipped sample at either width of the host (R473). -/
theorem outputSample_clampSample (x : Int) :
    outputSample (clampSample x) =
      if Config.sampleBits16 then BitVec.ofInt 16 (max (-32768) (min 32767 x))
      else BitVec.ofNat 16 (max (-32768) (min 32767 x) / 256 + 128).toNat := by
  rw [outputSample, clampSample_eq]
  congr 1
  have hrange : 0 ≤ max (-32768) (min 32767 x) / 256 + 128 ∧ max (-32768) (min 32767 x) / 256 + 128 < 256 := by omega
  generalize max (-32768) (min 32767 x) / 256 + 128 = y at hrange
  obtain ⟨k, rfl⟩ := Int.eq_ofNat_of_zero_le hrange.1
  have hk : k < 256 := Int.ofNat_lt.mp hrange.2
  apply BitVec.eq_of_toNat_eq
  rw [BitVec.ofInt_natCast, BitVec.toNat_setWidth, BitVec.toNat_ofNat, BitVec.toNat_ofNat, Int.toNat_natCast, Nat.mod_eq_of_lt hk]

theorem rawSum_eq (p : Apu) :
    rawSum p = contribution p .rect0 + contribution p .rect1 + contribution p .triangle + contribution p .noise + contribution p .dmc := by
  simp only [rawSum, allChannels, List.map_cons, List.map_nil, List.sum_cons, List.sum_nil]
  ring

/-- The count of samples is no part of a contribution. -/
theorem contribution_clock (p : Apu) (k : Nat) (c : Channel) : contribution { p with clock := k } c = contribution p c := by
  cases c <;> rfl

/-- The states that a sample leaves, by the registers written out (R468, R469). -/
theorem mixedSynth_eq (p : Apu) (raw : Int) :
    allChannels.map (fun c => (synthAnswer p c).2) ++ [(Config.synthFilter raw (p.synth.getD 5 0)).2] = synthAfter p raw := rfl

/-- The APU that sample `s.apu.clock` mixes: the counters and the DMC have moved. -/
def mixedApu (s : State) : Apu := (dmcSample s.apu.clock (countSample s.apu.clock s)).apu

theorem nextOutput_eq (s : State) :
    nextOutput s = outputSample (clampSample (Config.synthFilter (rawSum (mixedApu s)) ((mixedApu s).synth.getD 5 0)).1) := rfl

theorem generateSample_apu_mixed (s : State) :
    (generateSample s).apu =
      { mixedApu s with synth := synthAfter (mixedApu s) (rawSum (mixedApu s)), clock := (mixedApu s).clock + 1 } := by
  rw [← mixedSynth_eq]
  rfl

/-- Before it is mixed a sample has moved no synthesis state and no register. -/
theorem mixedApu_eq (s : State) :
    ∃ d : Dmc, mixedApu s = { (countSample s.apu.clock s).apu with dmc := d } ∧
      d.reg0 = s.apu.dmc.reg0 ∧ d.reg1 = s.apu.dmc.reg1 ∧ d.reg2 = s.apu.dmc.reg2 ∧ d.reg3 = s.apu.dmc.reg3 := by
  obtain ⟨n, h⟩ := dmcSample_apu s.apu.clock (countSample s.apu.clock s)
  obtain ⟨-, h0, h3, -⟩ := dmcFetches_apu n (countSample s.apu.clock s)
  obtain ⟨h1, h2⟩ := dmcFetches_registers n (countSample s.apu.clock s)
  exact ⟨_, h, h0, h1, h2, h3⟩

theorem mixedApu_synth (s : State) : (mixedApu s).synth = s.apu.synth := by
  obtain ⟨d, h, -⟩ := mixedApu_eq s
  rw [h]
  rfl

theorem synthAfter_mixedApu (s : State) (raw : Int) : synthAfter (mixedApu s) raw = synthAfter s.apu raw := by
  obtain ⟨d, h, h0, h1, h2, h3⟩ := mixedApu_eq s
  simp only [h, synthAfter, h0, h1, h2, h3]
  rfl

/-! ### The DMC's bits -/

theorem stepLevel_eq : stepLevel = levelAfter := by
  funext level bit
  have hadd : level + 2 = BitVec.ofNat 7 (level.toNat + 2) := BitVec.eq_of_toNat_eq (by simp)
  cases bit with
  | true => simp only [stepLevel, levelAfter, hadd, if_true, true_and, reduceCtorEq, false_and, if_false]
  | false =>
    simp only [stepLevel, levelAfter, reduceCtorEq, if_false, false_and, true_and]
    by_cases h : 2 ≤ level.toNat
    · rw [if_pos h, if_pos h]
      bv_omega
    · rw [if_neg h, if_neg h]

theorem outputBits_eq (c : Dmc) : c.outputBits = dmcAfter c := by
  rw [Dmc.outputBits, stepLevel_eq]
  rfl

/-- With no fetch a sample outputs the bits that come due. -/
theorem generateSample_idle_dmc {s : State} (h : DmcIdle s.apu) : (generateSample s).apu.dmc = dmcAfter s.apu.dmc := by
  rw [generateSample_idle h, ← outputBits_eq]
  rfl

theorem generateSample_linear (s : State) : (generateSample s).apu.tri.linear = (s.apu.tri.count s.apu.clock).linear := by
  obtain ⟨d, h, -⟩ := mixedApu_eq s
  rw [generateSample_apu_mixed, h]
  rfl

theorem mixSamples : MixSamples := by
  unfold MixSamples
  refine ⟨fun s => ?_, fun p => ⟨rfl, rfl, ?_, rfl, ?_⟩⟩
  · have hcontribution (c : Channel) :
        contribution { (generateSample s).apu with synth := s.apu.synth } c = contribution (mixedApu s) c := by
      rw [generateSample_apu_mixed, ← mixedApu_synth]
      exact contribution_clock (mixedApu s) ((mixedApu s).clock + 1) c
    simp only [apuProcess_one, withAudio_apu, hcontribution, ← rawSum_eq]
    refine ⟨?_, ?_, ?_, generateSample_idle_dmc⟩
    · rw [← outputSample_clampSample, ← mixedApu_synth, ← nextOutput_eq]
      rfl
    · rw [generateSample_apu_mixed, synthAfter_mixedApu]
    · rw [generateSample_linear, Triangle.count_linear]
  · rw [sounding, Bool.and_assoc]
    rfl
  · rw [contribution, channelSounds, Bool.and_true]
    rfl

/-- Settles O51: the counters by induction on the samples, and one sample by what it mixes. -/
theorem mixCall : Obligations.MixCall := ⟨mixCounts, mixSamples⟩

end Sys2Proof.Machine

/-! SUPPORT. The total cycle counter (70_reset_and_hazards.md R622): nothing but `charge` and a JAM moves it, and both only upward, outside the
host calls that set it. -/

namespace Sys2Proof.Machine

open Sys2Proof.Claims

/-- `t` is not earlier than `s`: no cycle was taken back. -/
def Later (s t : State) : Prop := s.run.cycles ≤ t.run.cycles

theorem Later.refl (s : State) : Later s s := Nat.le_refl _

theorem Later.trans {s t u : State} (h : Later s t) (g : Later t u) : Later s u := Nat.le_trans h g

/-- What moves only other fields takes no time. -/
theorem Later.of_run_eq {s t : State} (h : t.run = s.run) : Later s t := Nat.le_of_eq (congrArg Run.cycles h).symm

theorem ReadFrame.later {s t : State} (h : ReadFrame s t) : Later s t := .of_run_eq h.run

theorem WriteFrame.later {s t : State} (h : WriteFrame s t) : Later s t := Nat.le_of_eq (congrArg Run.cycles h.run).symm

theorem charge_later (k : Nat) (s : State) : Later s (charge k s) := Nat.le_add_right _ _

theorem addBurn_later (k : Nat) (s : State) : Later s (addBurn k s) := (addBurn_frame k s).later

theorem memWrite_later (a : Addr) (v : Byte) (s : State) : Later s (memWrite a v s) := (memWrite_frame a v s).later

/-! ### Instructions -/

/-- The outcome is a next state that is not earlier. -/
def EndsLater (s : State) (r : Result) : Prop := ∃ t, r = .next t ∧ Later s t

/-- An instruction that leaves the run state to its charge ends later. -/
theorem EndsLater.charged {s u : State} (h : Later s u) (k : Nat) : EndsLater s (.next (charge k u)) := ⟨_, rfl, h.trans (charge_later k u)⟩

theorem readInstr_endsLater {o : Operand} {base : Nat} {effect : Byte → State → State}
    (heffect : ∀ v u, (effect v u).run = u.run) (s : State) : EndsLater s (readInstr o base effect s) :=
  .charged ((loadOperand_frame o s).later.trans (.of_run_eq (heffect _ _))) _

theorem rmwOperand_later (o : Operand) (f : Byte → Flags → Byte × Flags) (s : State) : Later s (rmwOperand o f s).2 := by
  by_cases ho : o = .acc
  · rw [ho]
    exact .of_run_eq rfl
  · rw [rmwOperand_mem ho]
    exact (memRead_frame _ s).later.trans (memWrite_later _ _ _)

theorem rmwInstr_endsLater (o : Operand) (n : Nat) (f : Byte → Flags → Byte × Flags) (s : State) : EndsLater s (rmwInstr o n f s) :=
  .charged (rmwOperand_later o f s) n

theorem rmwThenInstr_endsLater {o : Operand} {n : Nat} {f : Byte → Flags → Byte × Flags} {effect : Byte → State → State}
    (heffect : ∀ v u, (effect v u).run = u.run) (s : State) : EndsLater s (rmwThenInstr o n f effect s) :=
  .charged ((rmwOperand_later o f s).trans (.of_run_eq (heffect _ _))) n

theorem storeInstr_endsLater (o : Operand) (n : Nat) (v : Byte) (s : State) : EndsLater s (storeInstr o n v s) := by
  rw [storeInstr_eq]
  exact .charged (memWrite_later _ _ s) n

theorem unstableStore_endsLater (o : Operand) (n : Nat) (reg : Byte) (s : State) : EndsLater s (unstableStore o n reg s) := by
  unfold unstableStore
  dsimp only
  rw [effAddr_state]
  exact .charged (memWrite_later _ _ s) n

theorem branchInstr_endsLater (taken : Bool) (r : Byte) (s : State) : EndsLater s (branchInstr taken r s) := by
  cases taken <;> exact .charged (.of_run_eq rfl) _

theorem jamCpu_later (s : State) : Later s (jamCpu s) := Nat.le_add_right _ _

theorem enterInterrupt_later (b : Bool) (vector : Addr) (s : State) : Later s (enterInterrupt b vector s) := by
  have hentry : Later s (entered b s.cpu.pc vector s) := .of_run_eq (entered_run b s.cpu.pc vector s)
  rw [← enterInterrupt_setPc] at hentry
  exact hentry

theorem push_run (v : Byte) (s : State) : (push v s).run = s.run := by rw [push_eq]

theorem push16_run (v : Addr) (s : State) : (push16 v s).run = s.run := by rw [push16_eq]

theorem pull_run (s : State) : (pull s).2.run = s.run := by rw [pull_eq]

theorem pull16_run (s : State) : (pull16 s).2.run = s.run := by rw [pull16_eq]

theorem returnFromInterrupt_run (s : State) : (returnFromInterrupt s).run = s.run := by rw [returnFromInterrupt_eq]

/-- Every instruction ends in a state that is not earlier. The cases stand by the shape of the meaning. -/
theorem exec_endsLater (i : Instr) (s : State) : EndsLater s (exec i s) := by
  cases i with
  -- reading instructions: the effect on the registers leaves the run state
  | ldaIzx | ldaZp | ldaImm | ldaAbs | ldaIzy | ldaZpx | ldaAbsy | ldaAbsx | ldxImm | ldxZp | ldxAbs | ldxZpy | ldxAbsy
  | ldyImm | ldyZp | ldyAbs | ldyZpx | ldyAbsx
  | adcIzx | adcZp | adcImm | adcAbs | adcIzy | adcZpx | adcAbsy | adcAbsx
  | sbcIzx | sbcZp | sbcImm | sbcImmEB | sbcAbs | sbcIzy | sbcZpx | sbcAbsy | sbcAbsx
  | andIzx | andZp | andImm | andAbs | andIzy | andZpx | andAbsy | andAbsx
  | oraIzx | oraZp | oraImm | oraAbs | oraIzy | oraZpx | oraAbsy | oraAbsx
  | eorIzx | eorZp | eorImm | eorAbs | eorIzy | eorZpx | eorAbsy | eorAbsx
  | cmpIzx | cmpZp | cmpImm | cmpAbs | cmpIzy | cmpZpx | cmpAbsy | cmpAbsx | cpxImm | cpxZp | cpxAbs | cpyImm | cpyZp | cpyAbs
  | bitZp | bitAbs | laxIzx | laxZp | laxAbs | laxIzy | laxZpy | laxAbsy | lasAbsy
  | nopZp04 | nopZp44 | nopZp64 | nopAbs | nopZpx14 | nopZpx34 | nopZpx54 | nopZpx74 | nopZpxD4 | nopZpxF4
  | nopAbsx1C | nopAbsx3C | nopAbsx5C | nopAbsx7C | nopAbsxDC | nopAbsxFC =>
    refine .charged ?_ _
    exact (loadOperand_frame _ s).later
  -- storing instructions
  | staIzx | staZp | staAbs | staIzy | staZpx | staAbsy | staAbsx | stxZp | stxAbs | stxZpy | styZp | styAbs | styZpx
  | saxIzx | saxZp | saxAbs | saxZpy => exact storeInstr_endsLater _ _ _ s
  | shaIzy | shaAbsy | shxAbsy | shyAbsx => exact unstableStore_endsLater _ _ _ s
  | tasAbsy => exact unstableStore_endsLater _ _ _ (setSp (s.cpu.a &&& s.cpu.x) s)
  -- read-modify-write instructions
  | aslZp | aslAcc | aslAbs | aslZpx | aslAbsx | lsrZp | lsrAcc | lsrAbs | lsrZpx | lsrAbsx
  | rolZp | rolAcc | rolAbs | rolZpx | rolAbsx | rorZp | rorAcc | rorAbs | rorZpx | rorAbsx
  | incZp | incAbs | incZpx | incAbsx | decZp | decAbs | decZpx | decAbsx => exact rmwInstr_endsLater _ _ _ s
  | sloIzx | sloZp | sloAbs | sloIzy | sloZpx | sloAbsy | sloAbsx | rlaIzx | rlaZp | rlaAbs | rlaIzy | rlaZpx | rlaAbsy | rlaAbsx
  | sreIzx | sreZp | sreAbs | sreIzy | sreZpx | sreAbsy | sreAbsx | rraIzx | rraZp | rraAbs | rraIzy | rraZpx | rraAbsy | rraAbsx
  | dcpIzx | dcpZp | dcpAbs | dcpIzy | dcpZpx | dcpAbsy | dcpAbsx | isbIzx | isbZp | isbAbs | isbIzy | isbZpx | isbAbsy | isbAbsx =>
    refine .charged ?_ _
    exact rmwOperand_later _ _ s
  -- control transfer
  | bpl | bmi | bvc | bvs | bcc | bcs | bne | beq => exact branchInstr_endsLater _ _ s
  | jmpInd l h =>
    have hread : Later s (indirectTarget l h s).2 := ((memRead_frame _ s).trans (memRead_frame _ _)).later
    refine .charged ?_ _
    exact hread
  | jsrAbs l h =>
    refine .charged ?_ _
    exact .of_run_eq (push16_run (s.cpu.pc - 1) s)
  | rts =>
    refine .charged ?_ _
    exact .of_run_eq (pull16_run s)
  | brk => exact .charged (enterInterrupt_later true irqVector (setPc (s.cpu.pc + 1) s)) _
  | rti => exact .charged (.of_run_eq (returnFromInterrupt_run s)) _
  -- the stack
  | pha | php => exact .charged (.of_run_eq (push_run _ s)) _
  | pla | plp =>
    refine .charged ?_ _
    exact .of_run_eq (pull_run s)
  -- JAM, and the instructions on registers and flags alone
  | jam02 | jam12 | jam22 | jam32 | jam42 | jam52 | jam62 | jam72 | jam92 | jamB2 | jamD2 | jamF2 =>
    exact ⟨_, rfl, jamCpu_later s⟩
  | jmpAbs | tax | tay | txa | tya | tsx | txs | inx | iny | dex | dey | clc | sec | cli | sei | cld | sed | clv
  | ancImm0B | ancImm2B | alrImm | arrImm | axsImm | aneImm | lxaImm
  | nop | nopImp1A | nopImp3A | nopImp5A | nopImp7A | nopImpDA | nopImpFA | nopImm80 | nopImm82 | nopImm89 | nopImmC2 | nopImmE2 =>
    exact .charged (.of_run_eq rfl) _

theorem fetchByte_later (s : State) : Later s (fetchByte s).2 := (memRead_frame s.cpu.pc s).later

theorem fetchBytes_later (n : Nat) (s : State) : Later s (fetchBytes n s).2 := by
  induction n generalizing s with
  | zero => exact .refl s
  | succ n ih => exact (fetchByte_later s).trans (ih _)

/-- A step of the CPU fetches, and then jams, refuses or executes (60_exceptions.md R355). -/
theorem cpuStep_endsLater (s : State) : EndsLater s (cpuStep s) := by
  have hfetch := fetchByte_later s
  unfold cpuStep
  dsimp only
  split
  · exact ⟨_, rfl, hfetch.trans (jamCpu_later _)⟩
  · split
    · exact ⟨_, rfl, hfetch⟩
    · obtain ⟨t, ht, hlater⟩ := exec_endsLater (fetchOperands (fetchByte s).1 (fetchByte s).2).1
        (fetchOperands (fetchByte s).1 (fetchByte s).2).2
      exact ⟨t, ht, (hfetch.trans (fetchBytes_later _ _)).trans hlater⟩

/-! ### Interrupts and the mix call -/

theorem nmi_later (s : State) : Later s (nmi s) := by
  unfold nmi interrupt
  split
  · exact .refl s
  · exact (enterInterrupt_later _ _ s).trans (addBurn_later _ _)

theorem irq_later (s : State) : Later s (irq s) := by
  unfold irq interrupt
  split
  · exact .refl s
  · split
    · exact Nat.le_refl s.run.cycles
    · exact (enterInterrupt_later _ _ s).trans (addBurn_later _ _)

theorem dmcFetch_later (s : State) : Later s (dmcFetch s) := by
  have hread : Later s (addBurn 1 (memRead s.apu.dmc.addr s).2) := (memRead_frame _ s).later.trans (addBurn_later 1 _)
  have hstep (p : Apu) : Later s { addBurn 1 (memRead s.apu.dmc.addr s).2 with apu := p } := hread
  unfold dmcFetch
  dsimp only
  split
  · split
    · exact hstep _
    · split
      · exact (hstep _).trans (irq_later _)
      · exact hstep _
  · exact hstep _

theorem dmcFetches_later (n : Nat) (s : State) : Later s (dmcFetches n s) := by
  induction n generalizing s with
  | zero => exact .refl s
  | succ n ih =>
    unfold dmcFetches
    split
    · exact (dmcFetch_later s).trans (ih _)
    · exact .refl s

theorem generateSample_later (s : State) : Later s (generateSample s) := dmcFetches_later _ (countSample s.apu.clock s)

theorem generateSamples_later (n : Nat) (s : State) : Later s (generateSamples n s) := by
  induction n generalizing s with
  | zero => exact .refl s
  | succ n ih => exact (generateSample_later s).trans (ih _)

theorem apuProcess_later (n : Nat) (s : State) : Later s (apuProcess n s) :=
  generateSamples_later n { s with host := { s.host with audio := [] } }

/-! ### The frame loop -/

theorem PpuFrame.later {s t : State} (h : PpuFrame s t) : Later s t := Nat.le_of_eq (congrArg (·.run.cycles) h).symm

/-- The entry of a slice pays the burn, and may take an IRQ, both at a charge (60_exceptions.md R350). -/
theorem enterExecute_later (n : Int) (s : State) : Later s (enterExecute n s) := by
  cases hrefused : s.run.refused with
  | true =>
    rw [enterExecute_of_refused hrefused]
    exact .refl s
  | false =>
    have hpaid : Later s (burnPaid n s) := Nat.le_add_right _ _
    rw [enterExecute_eq hrefused]
    refine hpaid.trans ?_
    by_cases htakes : TakesIrq (burnPaid n s)
    · rw [takePendingIrq_of_takes htakes]
      exact Nat.le_add_right _ 7
    · rw [takePendingIrq_of_not_takes htakes]
      exact .refl _

theorem mapperHblank_later (s : State) : Later s (mapperHblank s) := by
  unfold mapperHblank mmc3Hblank
  dsimp only
  split
  · split
    · split
      · exact irq_later { s with mmc3 := { s.mmc3 with irqCounter := s.mmc3.irqCounter - 1 } }
      · exact .of_run_eq rfl
    · exact .refl s
  · exact .refl s

theorem fiqTick_later (e : Nat) (s : State) : Later s (fiqTick e s) := by
  unfold fiqTick
  dsimp only
  split
  · split
    · exact .of_run_eq rfl
    · exact irq_later { s with fiq := { s.fiq with cycles := s.fiq.cycles - e + (fiqPeriod : Int), occurred := true } }
  · exact .of_run_eq rfl

theorem settleSlice_later (start : Nat) (s : State) : Later s (settleSlice start s) :=
  fiqTick_later _ { s with orch := { s.orch with acc := s.orch.acc - 12 * ((s.run.cycles - start : Nat) : Int) } }

theorem beginSlice_later (k : SliceKind) (n : Int) (s : State) : Later s (beginSlice k n s) := enterExecute_later n s

theorem startLineSlice_later (s : State) : Later s (startLineSlice s) := by
  have hacc : Later s { mapperHblank s with orch := { (mapperHblank s).orch with acc := (mapperHblank s).orch.acc + lineTwelfths } } :=
    mapperHblank_later s
  exact hacc.trans (beginSlice_later _ _ _)

theorem startLine_later (s : State) : Later s (startLine s) := by
  have hline := (ppuScanline_ppuFrame s.orch.scanline s.orch.draw s).later
  unfold startLine
  dsimp only
  split
  · exact .refl s
  · split
    · exact hline.trans (beginSlice_later _ _ _)
    · exact hline.trans (startLineSlice_later _)

theorem endNmiDelay_later (start : Nat) (s : State) : Later s (endNmiDelay start s) := by
  have hnmi : Later (settleSlice start s)
      (if (settleSlice start s).ppu.ctrl0.getLsbD 7 then nmi (settleSlice start s) else settleSlice start s) := by
    split
    · exact nmi_later _
    · exact .refl _
  refine Later.trans ?_ (startLineSlice_later _)
  exact (settleSlice_later start s).trans hnmi

theorem endSlice_later (k : SliceKind) (start : Nat) (s : State) : Later s (endSlice k start s) := by
  cases k with
  | nmiDelay => exact endNmiDelay_later start s
  | line => exact (settleSlice_later start s).trans (ppuEndScanline_ppuFrame _ _).later

/-! ### Host calls and the step -/

/-- The state in which the CPU's reset reads its vector: the flags are drawn with I = 1, and no interrupt is pending and no JAM in force (R590). -/
def resetting (s : State) : State :=
  { s with
    cpu := { s.cpu with f := drawnFlags (Config.draw s.draws) }
    run := { s.run with intPending := false, jammed := false }
    draws := s.draws + 1 }

theorem cpuReset_of_refused {s : State} (h : s.run.refused = true) : cpuReset s = s := if_pos h

/-- The reset of a CPU that is not refused reads its vector, and owes `RESET_CYCLES` as burn (70_reset_and_hazards.md R590). -/
theorem cpuReset_eq {s : State} (h : s.run.refused = false) :
    cpuReset s = { (memRead16 resetVector (resetting s)).2 with
      cpu := { (resetting s).cpu with pc := (memRead16 resetVector (resetting s)).1 }
      run := { (resetting s).run with burn := Config.resetCycles } } := by
  have hframe := memRead16_frame resetVector (resetting s)
  rw [← hframe.cpu, ← hframe.run]
  exact if_neg (h ▸ Bool.false_ne_true)

theorem cpuReset_later (s : State) : Later s (cpuReset s) := by
  cases hrefused : s.run.refused with
  | true =>
    rw [cpuReset_of_refused hrefused]
    exact .refl s
  | false =>
    rw [cpuReset_eq hrefused]
    exact Nat.le_refl s.run.cycles

theorem softReset_later (s : State) : Later s (softReset s) := by
  refine Later.trans ?_ (cpuReset_later _)
  exact .of_run_eq (mapperReset_frame (apuReset (ppuReset s))).1.run

/-- A host call that does not set the counter leaves it or moves it on. -/
theorem runCall_later {call : HostCall} {s t : State} (hcall : ¬ setsCycles call) (h : runCall call s = .next t) : Later s t := by
  cases call with
  | eject | renderframe | saveState => exact eq_of_attachedNext h ▸ .of_run_eq rfl
  | apuProcess n => exact eq_of_attachedNext h ▸ apuProcess_later n s
  | softReset => exact eq_of_attachedNext h ▸ softReset_later s
  | hardReset => exact absurd (.inl rfl) hcall
  | insert image battery => exact absurd (.inr (.inl ⟨image, battery, rfl⟩)) hcall
  | loadState k => exact absurd (.inr (.inr ⟨k, rfl⟩)) hcall

/-- Settles O12, by the phase of the frame loop: each part of a step is not earlier than the part before it. -/
theorem cyclesNeverDecrease : Obligations.CyclesNeverDecrease := by
  unfold Obligations.CyclesNeverDecrease
  intro s t h
  cases hphase : s.orch.phase with
  | idle =>
    cases hcalls : s.host.calls with
    | nil =>
      rw [step_of_idle hphase, idleStep_of_no_call hcalls] at h
      cases h
      left
      split <;> exact Nat.le_refl _
    | cons call rest =>
      by_cases hcall : setsCycles call
      · exact .inr ⟨hphase, call, rest, hcalls, hcall⟩
      · rw [step_of_call hphase hcalls] at h
        exact .inl (runCall_later (s := withCalls rest s) hcall h)
  | lineStart =>
    rw [step_of_lineStart hphase] at h
    cases h
    exact .inl (startLine_later s)
  | slice k start =>
    cases hrun : sliceRunning s with
    | true =>
      obtain ⟨u, hu, hlater⟩ := cpuStep_endsLater s
      rw [step_of_sliceRunning hphase hrun, hu] at h
      cases h
      exact .inl hlater
    | false =>
      rw [step_of_sliceEnd hphase hrun] at h
      cases h
      exact .inl (endSlice_later k start s)

end Sys2Proof.Machine

/-! SUPPORT. The mappings of MMC1 and MMC3 entry by entry (63_mapper.md R503-R505, R513, R514, R521-R532): a register write is one of the
mapper's cases, and applying the mapping is a row of banks. -/

namespace Sys2Proof.Machine

open Sys2Proof.Claims

/-! ### The banking primitives -/

/-- Settles O52, by the entries that each primitive writes. -/
theorem bankPrimitives : Obligations.BankPrimitives := by
  unfold Obligations.BankPrimitives
  refine ⟨?_, ?_, ?_⟩
  · intro k m b s i hk _ _ n j first t
    have hentry : t.pages.get i =
        if first ≤ i.val ∧ i.val < first + k / 4 then prgEntry s.cart.prgBytes (1024 * k) b (i.val - first) else s.pages.get i :=
      bankPrg_get _ _ _ _ _
    refine ⟨fun hlow hhigh => ?_, fun hout => ?_, rfl⟩
    · rw [hentry, if_pos ⟨hlow, hhigh⟩]
      cases b <;> rfl
    · rw [hentry, if_neg (by omega)]
  · intro k m b s i hk _ total n j t
    have hfirst : 1024 * k * m / 1024 = k * m := by rw [Nat.mul_assoc, Nat.mul_div_cancel_left _ (by decide)]
    have hentry := bankChr_get k (1024 * k * m) b s i
    rw [hfirst] at hentry
    refine ⟨fun hlow hhigh => ?_, fun hout => ?_, rfl⟩
    · refine hentry.trans ((if_pos ⟨hlow, hhigh⟩).trans ?_)
      cases b <;> rfl
    · exact hentry.trans (if_neg (by omega))
  · intro m s i t
    have hentry : t.ppu.pages.get i = if 8 ≤ i.val then ntEntry m (i.val % 4) else s.ppu.pages.get i := ppuMirror_get m s i
    have hquadrant (k : Nat) (hk : k < 4) (hi : i.val = 8 + k ∨ i.val = 12 + k) : t.ppu.pages.get i = ntEntry m k := by
      rw [hentry, if_pos (by omega), show i.val % 4 = k by omega]
    refine ⟨fun hi => ?_, hquadrant 0 (by decide), hquadrant 1 (by decide), hquadrant 2 (by decide), hquadrant 3 (by decide), rfl⟩
    rw [hentry, if_neg (by omega)]

/-- A mapper's `Apply()` keeps its own registers, and so differs in the page tables alone. -/
theorem MapFrame.onlyMaps {s t : State} (h : MapFrame s t) (h1 : t.mmc1 = s.mmc1) (h3 : t.mmc3 = s.mmc3) : OnlyMaps s t := by
  refine ⟨?_, h.lowPages⟩
  rw [← h.ppu, ← h.cpu, ← h.run, ← h.mem, ← h.apu, ← h.cart, ← h1, ← h3, ← h.orch, ← h.fiq, ← h.pads, ← h.host, ← h.draws,
    ← h.undocPolicy, ← h.fiqRestart]

/-- The four quadrants' pages of a layout. -/
def Mirror.quadrants (m : Mirror) : List Nat := [m.nt0, m.nt1, m.nt2, m.nt3]

theorem ntEntry_eq (m : Mirror) {k : Nat} (hk : k < 4) : ntEntry m k = ⟨.nt, 1024 * m.quadrants.getD k 0⟩ := by
  interval_cases k <;> rfl

/-- The nametables stay mirrored under what writes only pattern table entries. -/
theorem mirrored_of_nametables {m : Mirror} {s t : State}
    (h : ∀ i : Fin 16, 8 ≤ i.val → t.ppu.pages.get i = (ppuMirror m s).ppu.pages.get i) : Mirrored m.quadrants t := by
  intro i hi
  rw [h i hi, ppuMirror_get, if_pos hi, ntEntry_eq m (by omega)]

/-- The pattern tables' banks leave the nametable entries. -/
theorem bankChr_get_nametable {k a : Nat} (ha : a / 1024 + k ≤ 8) (b : Bank) (s : State) {i : Fin 16} (hi : 8 ≤ i.val) :
    (bankChr k a b s).ppu.pages.get i = s.ppu.pages.get i := by
  rw [bankChr_get, if_neg (by omega)]

/-! ### Rows of banks -/

theorem prgEntry_index (c : Cart) (k b j : Nat) : prgEntry c.prgBytes (1024 * k) (.index b) j = prgPage c k b j := rfl

theorem chrEntry_index (c : Cart) (k b j : Nat) : chrEntry c.chrBytes (1024 * k) (.index b) j = chrPage c k b j := rfl

/-- The last bank of a size, as an index. -/
theorem prgEntry_last (c : Cart) (k j : Nat) :
    prgEntry c.prgBytes (1024 * k) .last j = prgPage c k (max 1 (16384 * c.prgBanks / (1024 * k)) - 1) j := by
  unfold prgEntry
  rw [resolve_last]
  rfl

/-- Two 16 KB banks fill $8000-$FFFF. -/
theorem bankPrg_two_get (low high : Bank) (s : State) {i : Fin 16} (hi : 8 ≤ i.val) :
    (bankPrg 16 0xC000 high (bankPrg 16 0x8000 low s)).pages.get i =
      if i.val < 12 then prgEntry s.cart.prgBytes (1024 * 16) low (i.val - 8)
      else prgEntry s.cart.prgBytes (1024 * 16) high (i.val - 12) := by
  rw [bankPrg_get, bankPrg_cart]
  by_cases h : i.val < 12
  · rw [if_neg (by omega), bankPrg_get, if_pos (by omega), if_pos h]
  · rw [if_pos (by omega), if_neg h]

/-- Four 8 KB banks fill $8000-$FFFF. -/
theorem bankPrg_four_get (b0 b1 b2 b3 : Bank) (s : State) {i : Fin 16} (hi : 8 ≤ i.val) :
    (bankPrg 8 0xE000 b3 (bankPrg 8 0xC000 b2 (bankPrg 8 0xA000 b1 (bankPrg 8 0x8000 b0 s)))).pages.get i =
      prgEntry s.cart.prgBytes (1024 * 8) ([b0, b1, b2, b3].getD (i.val / 2 - 4) .last) (i.val % 2) := by
  simp only [bankPrg_get, bankPrg_cart]
  obtain h | h | h | h : i.val / 2 = 4 ∨ i.val / 2 = 5 ∨ i.val / 2 = 6 ∨ i.val / 2 = 7 := by omega
  · rw [if_neg (by omega), if_neg (by omega), if_neg (by omega), if_pos (by omega), h, show i.val - 0x8000 / 4096 = i.val % 2 by omega]
    rfl
  · rw [if_neg (by omega), if_neg (by omega), if_pos (by omega), h, show i.val - 0xA000 / 4096 = i.val % 2 by omega]
    rfl
  · rw [if_neg (by omega), if_pos (by omega), h, show i.val - 0xC000 / 4096 = i.val % 2 by omega]
    rfl
  · rw [if_pos (by omega), h, show i.val - 0xE000 / 4096 = i.val % 2 by omega]
    rfl

theorem bankChr_one_get (a : Nat) (b : Bank) (s : State) (i : Fin 16) :
    (bankChr 1 a b s).ppu.pages.get i = if i.val = a / 1024 then chrEntry s.cart.chrBytes (1024 * 1) b 0 else s.ppu.pages.get i := by
  rw [bankChr_get]
  by_cases h : i.val = a / 1024
  · rw [if_pos (by omega), if_pos h, h, Nat.sub_self]
  · rw [if_neg (by omega), if_neg h]

/-- Four 1 KB banks fill one half of the pattern tables, from entry `4 * h` on. -/
theorem bankChr_four_get {a h : Nat} (ha : a = 0x1000 * h) (b0 b1 b2 b3 : Bank) (s : State) (i : Fin 16) :
    (bankChr 1 (a + 0x0C00) b3 (bankChr 1 (a + 0x0800) b2 (bankChr 1 (a + 0x0400) b1 (bankChr 1 (a + 0x0000) b0 s)))).ppu.pages.get i =
      if i.val / 4 = h then chrEntry s.cart.chrBytes (1024 * 1) ([b0, b1, b2, b3].getD (i.val % 4) .last) 0
      else s.ppu.pages.get i := by
  simp only [bankChr_one_get, bankChr_cart]
  by_cases hi : i.val / 4 = h
  · rw [if_pos hi]
    obtain e | e | e | e : i.val % 4 = 0 ∨ i.val % 4 = 1 ∨ i.val % 4 = 2 ∨ i.val % 4 = 3 := by omega
    · rw [e, if_neg (by omega), if_neg (by omega), if_neg (by omega), if_pos (by omega)]
      rfl
    · rw [e, if_neg (by omega), if_neg (by omega), if_pos (by omega)]
      rfl
    · rw [e, if_neg (by omega), if_pos (by omega)]
      rfl
    · rw [e, if_pos (by omega)]
      rfl
  · rw [if_neg hi, if_neg (by omega), if_neg (by omega), if_neg (by omega), if_neg (by omega)]

/-! ### MMC1 -/

theorem mmc1Apply_keeps (s : State) : (mmc1Apply s).mmc1 = s.mmc1 ∧ (mmc1Apply s).mmc3 = s.mmc3 := by
  obtain ⟨-, -, hc1, hc3⟩ := mmc1ApplyChr_keeps (mmc1ApplyPrg (ppuMirror s.mmc1.mirror s))
  obtain ⟨-, -, hp1, hp3⟩ := mmc1ApplyPrg_keeps (ppuMirror s.mmc1.mirror s)
  exact ⟨hc1.trans (hp1.trans (ppuMirror_mmc1 _ s)), hc3.trans (hp3.trans (ppuMirror_mmc3 _ s))⟩

theorem mmc1ApplyPrg_get (s : State) {i : Fin 16} (hi : 8 ≤ i.val) :
    (mmc1ApplyPrg s).pages.get i =
      if s.mmc1.reg0.toNat / 4 % 4 = 2 then
        (if i.val < 12 then prgPage s.cart 16 0 (i.val - 8) else prgPage s.cart 16 (s.mmc1.reg3.toNat % 16) (i.val - 12))
      else if s.mmc1.reg0.toNat / 4 % 4 = 3 then
        (if i.val < 12 then prgPage s.cart 16 (s.mmc1.reg3.toNat % 16) (i.val - 8) else prgPage s.cart 16 15 (i.val - 12))
      else prgPage s.cart 32 (s.mmc1.reg3.toNat / 2 % 8) (i.val - 8) := by
  unfold mmc1ApplyPrg
  split
  · next h =>
    rw [if_pos h, bankPrg_two_get _ _ _ hi]
    rfl
  · next h =>
    rw [if_neg (by omega), if_pos h, bankPrg_two_get _ _ _ hi]
    rfl
  · next h2 h3 =>
    rw [if_neg h2, if_neg h3, bankPrg_get, if_pos (by omega)]
    rfl

theorem mmc1ApplyChr_get (s : State) {i : Fin 16} (hi : i.val < 8) :
    (mmc1ApplyChr s).ppu.pages.get i =
      if s.mmc1.reg0.getLsbD 4 = false then chrPage s.cart 8 (s.mmc1.reg1.toNat / 2) i.val
      else if i.val < 4 then chrPage s.cart 4 s.mmc1.reg1.toNat i.val
      else chrPage s.cart 4 s.mmc1.reg2.toNat (i.val - 4) := by
  unfold mmc1ApplyChr
  cases h : s.mmc1.reg0.getLsbD 4 with
  | false =>
    rw [if_neg Bool.false_ne_true, if_pos rfl, bankChr_get, if_pos (by omega)]
    rfl
  | true =>
    rw [if_pos rfl, if_neg Bool.noConfusion, bankChr_get, bankChr_cart]
    by_cases h4 : i.val < 4
    · rw [if_neg (by omega), bankChr_get, if_pos (by omega), if_pos h4]
      rfl
    · rw [if_pos (by omega), if_neg h4]
      rfl

theorem mmc1ApplyChr_get_nametable (s : State) {i : Fin 16} (hi : 8 ≤ i.val) :
    (mmc1ApplyChr s).ppu.pages.get i = s.ppu.pages.get i := by
  unfold mmc1ApplyChr
  split
  · rw [bankChr_get_nametable (by decide) _ _ hi, bankChr_get_nametable (by decide) _ _ hi]
  · rw [bankChr_get_nametable (by decide) _ _ hi]

theorem mmc1_mirror_quadrants (m : Mmc1) :
    m.mirror.quadrants = [[0, 0, 0, 0], [1, 1, 1, 1], [0, 1, 0, 1], [0, 0, 1, 1]].getD (m.reg0.toNat % 4) [] := by
  unfold Mmc1.mirror
  have hlt : m.reg0.toNat % 4 < 4 := Nat.mod_lt _ (by decide)
  generalize m.reg0.toNat % 4 = k at hlt ⊢
  interval_cases k <;> rfl

/-- MMC1 claims every write from $8000 on (63_mapper.md R512). -/
theorem memWrite_mmc1 {a : Addr} {s : State} (hm : s.cart.mapper = 1) (ha : 0x8000 ≤ a.toNat) (d : Byte) :
    memWrite a d s = mmc1Write a d s := by
  have hlt := a.isLt
  have hlookup : (writeTable s.cart.mapper).lookup a.toNat = some .mmc1 := by
    rw [hm]
    simp only [writeTable, defaultWriteTable, mapperWriteTable, List.cons_append, List.nil_append, HandlerTable.lookup]
    repeat rw [if_neg (by omega)]
    exact if_pos (by omega)
  unfold memWrite
  rw [if_neg (by omega), hlookup]
  rfl

/-- The bit that a serial write shifts in, as a number. -/
theorem serialBit_eq (d : Byte) (k : Nat) :
    (if d.getLsbD 0 then (1 : BitVec 5) else 0) <<< k = BitVec.ofNat 5 (d.toNat % 2 * 2 ^ k) := by
  have hbit : d.getLsbD 0 = decide (d.toNat % 2 = 1) := by
    rw [BitVec.getLsbD, Nat.testBit_zero]
  rw [hbit]
  apply BitVec.eq_of_toNat_eq
  rw [BitVec.toNat_shiftLeft, BitVec.toNat_ofNat, Nat.shiftLeft_eq]
  obtain h | h : d.toNat % 2 = 0 ∨ d.toNat % 2 = 1 := by omega
  · simp [h]
  · simp [h]

/-- The register that bits 14 and 13 of an address from $8000 on select (R513). -/
theorem Mmc1.load_eq (m : Mmc1) {a : Addr} (ha : 0x8000 ≤ a.toNat) (x : BitVec 5) :
    m.load a x = { m with
      reg0 := if a.toNat < 0xA000 then x else m.reg0
      reg1 := if 0xA000 ≤ a.toNat ∧ a.toNat < 0xC000 then x else m.reg1
      reg2 := if 0xC000 ≤ a.toNat ∧ a.toNat < 0xE000 then x else m.reg2
      reg3 := if 0xE000 ≤ a.toNat then x else m.reg3 } := by
  have hlt := a.isLt
  unfold Mmc1.load
  obtain h | h | h | h : a.toNat / 8192 % 4 = 0 ∨ a.toNat / 8192 % 4 = 1 ∨ a.toNat / 8192 % 4 = 2 ∨ a.toNat / 8192 % 4 = 3 := by omega
  · rw [h, if_pos (by omega), if_neg (by omega), if_neg (by omega), if_neg (by omega)]
    rfl
  · rw [h, if_neg (by omega), if_pos (by omega), if_neg (by omega), if_neg (by omega)]
    rfl
  · rw [h, if_neg (by omega), if_neg (by omega), if_pos (by omega), if_neg (by omega)]
    rfl
  · rw [h, if_neg (by omega), if_neg (by omega), if_neg (by omega), if_pos (by omega)]
    rfl

/-- The shift register with bit 0 of a byte put at the place that the count gives. -/
def Mmc1.shifted (m : Mmc1) (d : Byte) : BitVec 5 := m.shift ||| BitVec.ofNat 5 (d.toNat % 2 * 2 ^ m.bitcount)

theorem serialWrite_reset {d : Byte} (hd : d.getLsbD 7 = true) (m : Mmc1) (a : Addr) :
    m.serialWrite a d = ({ m with shift := 0, bitcount := 0, reg0 := m.reg0 ||| 0x0C }, true) := if_pos hd

theorem serialWrite_shift {d : Byte} {m : Mmc1} (hd : d.getLsbD 7 = false) (hcount : m.bitcount ≠ 4) (a : Addr) :
    m.serialWrite a d = ({ m with shift := m.shifted d, bitcount := m.bitcount + 1 }, false) := by
  unfold Mmc1.serialWrite Mmc1.shifted
  dsimp only
  rw [if_neg (hd ▸ Bool.false_ne_true), serialBit_eq, if_neg (by omega)]

theorem serialWrite_load {d : Byte} {m : Mmc1} (hd : d.getLsbD 7 = false) (hcount : m.bitcount = 4) (a : Addr) :
    m.serialWrite a d = ({ m.load a (m.shifted d) with shift := 0, bitcount := 0 }, true) := by
  unfold Mmc1.serialWrite Mmc1.shifted
  dsimp only
  rw [if_neg (hd ▸ Bool.false_ne_true), serialBit_eq, if_pos (by omega)]

/-- A serial write that resets or completes a register re-applies the mapping, and another only shifts (R513). -/
theorem mmc1Write_eq {m : Mmc1} {applies : Bool} {a : Addr} {d : Byte} {s : State} (h : s.mmc1.serialWrite a d = (m, applies)) :
    mmc1Write a d s = if applies then mmc1Apply { s with mmc1 := m } else { s with mmc1 := m } := by
  unfold mmc1Write
  rw [h]

/-- A 16 KB bank of a cartridge with a PRG bank, as the page's offset. -/
theorem prgPage_16 {c : Cart} (hc : 1 ≤ c.prgBanks) (b : Nat) {j : Nat} (hj : j < 4) :
    prgPage c 16 b j = .mapped .prg (16384 * (b % c.prgBanks) + 4096 * j) := by
  have hlt : b % c.prgBanks < c.prgBanks := Nat.mod_lt _ hc
  have hcount : max 1 (16384 * c.prgBanks / (1024 * 16)) = c.prgBanks := by omega
  unfold prgPage
  dsimp only
  rw [hcount, Nat.mod_eq_of_lt (by omega), Nat.mul_comm (b % c.prgBanks)]

/-- The control bits after a reset write (R517). -/
theorem resetControl_bits : ∀ r : BitVec 5,
    (r ||| 0x0C).extractLsb' 2 2 = 3 ∧ (r ||| 0x0C).extractLsb' 0 2 = r.extractLsb' 0 2 ∧ (r ||| 0x0C).getLsbD 4 = r.getLsbD 4 ∧
      (r ||| 0x0C).toNat / 4 % 4 = 3 := by decide

/-- Applying the MMC1 mapping (R514). -/
theorem mmc1Apply_maps (s : State) :
    OnlyMaps s (mmc1Apply s) ∧ Mirrored s.mmc1.mirror.quadrants (mmc1Apply s) ∧
    (∀ i : Fin 16, 8 ≤ i.val → (mmc1Apply s).pages.get i = (mmc1ApplyPrg s).pages.get i) ∧
    ∀ i : Fin 16, i.val < 8 → (mmc1Apply s).ppu.pages.get i = (mmc1ApplyChr s).ppu.pages.get i := by
  obtain ⟨hppu, hcart, h1, -⟩ := mmc1ApplyPrg_keeps (ppuMirror s.mmc1.mirror s)
  obtain ⟨hpages, -, -, -⟩ := mmc1ApplyChr_keeps (mmc1ApplyPrg (ppuMirror s.mmc1.mirror s))
  refine ⟨(mmc1Apply_frame s).onlyMaps (mmc1Apply_keeps s).1 (mmc1Apply_keeps s).2, mirrored_of_nametables (s := s) ?_, ?_, ?_⟩
  · intro i hi
    unfold mmc1Apply
    rw [mmc1ApplyChr_get_nametable _ hi, hppu]
  · intro i hi
    unfold mmc1Apply
    rw [hpages, mmc1ApplyPrg_get _ hi, mmc1ApplyPrg_get _ hi, ppuMirror_cart, ppuMirror_mmc1]
  · intro i hi
    unfold mmc1Apply
    rw [mmc1ApplyChr_get _ hi, mmc1ApplyChr_get _ hi, hcart, h1, ppuMirror_cart, ppuMirror_mmc1]

/-- Settles O53: the three kinds of serial write, and the rows of banks that `Apply()` sets. -/
theorem mmc1SerialPort : Obligations.Mmc1SerialPort := by
  unfold Obligations.Mmc1SerialPort
  refine ⟨?_, ?_, ?_⟩
  · intro s m t mode
    obtain ⟨honly, hmirror, hprg, hchr⟩ := mmc1Apply_maps s
    rw [mmc1_mirror_quadrants] at hmirror
    refine ⟨honly, hmirror, ?_, ?_⟩
    · intro i hi
      exact (hprg i hi).trans (mmc1ApplyPrg_get s hi)
    · intro i hi
      exact (hchr i hi).trans (mmc1ApplyChr_get s hi)
  · intro a d s hm ha m sh
    rw [memWrite_mmc1 hm ha]
    refine ⟨fun hd => mmc1Write_eq (serialWrite_reset hd _ a), fun hd hcount => mmc1Write_eq (serialWrite_shift hd hcount a),
      fun hd hcount => (mmc1Write_eq (serialWrite_load hd hcount a)).trans ?_⟩
    rw [Mmc1.load_eq _ ha]
    rfl
  · intro s hm hbanks t
    let u : State := { s with mmc1 := { s.mmc1 with shift := 0, bitcount := 0, reg0 := s.mmc1.reg0 ||| 0x0C } }
    have ht : t = mmc1Apply u := (memWrite_mmc1 hm (by decide) 0x80).trans (mmc1Write_eq (serialWrite_reset (by decide) _ 0x8000))
    obtain ⟨hmode, hmirror, hchr, hmode'⟩ := resetControl_bits s.mmc1.reg0
    have hmmc1 : t.mmc1 = u.mmc1 := ht ▸ (mmc1Apply_keeps u).1
    rw [hmmc1]
    refine ⟨rfl, rfl, hmode, hmirror, hchr, fun j => ?_⟩
    have hprg (i : Fin 16) (hi : 8 ≤ i.val) : t.pages.get i =
        if i.val < 12 then prgPage s.cart 16 (s.mmc1.reg3.toNat % 16) (i.val - 8) else prgPage s.cart 16 15 (i.val - 12) := by
      rw [ht, (mmc1Apply_maps u).2.2.1 i hi, mmc1ApplyPrg_get u hi]
      have hmode3 : u.mmc1.reg0.toNat / 4 % 4 = 3 := hmode'
      exact (if_neg (by omega)).trans (if_pos hmode3)
    refine ⟨?_, ?_⟩
    · rw [hprg _ (Nat.le_add_right 8 j), if_pos (by dsimp only; omega), prgPage_16 hbanks _ (by dsimp only; omega)]
      dsimp only
      rw [Nat.add_sub_cancel_left]
    · rw [hprg _ (by dsimp only; omega), if_neg (by dsimp only; omega), prgPage_16 hbanks _ (by dsimp only; omega)]
      dsimp only
      rw [Nat.add_sub_cancel_left]

/-! ### MMC3: the mapping -/

theorem mmc3Apply_keeps (s : State) : (mmc3Apply s).mmc1 = s.mmc1 ∧ (mmc3Apply s).mmc3 = s.mmc3 := by
  obtain ⟨-, -, hc1, hc3⟩ := mmc3ApplyChr_keeps (mmc3ApplyPrg s)
  obtain ⟨-, -, hp1, hp3⟩ := mmc3ApplyPrg_keeps s
  exact ⟨hc1.trans hp1, hc3.trans hp3⟩

/-- The numbers of the four 8 KB windows' banks (R524). -/
def mmc3PrgBanks (s : State) : List Nat :=
  if s.mmc3.command.getLsbD 6 then [s.cart.prgBanks8 - 2, s.mmc3.bankNat 7, s.mmc3.bankNat 6, s.cart.prgBanks8 - 1]
  else [s.mmc3.bankNat 6, s.mmc3.bankNat 7, s.cart.prgBanks8 - 2, s.cart.prgBanks8 - 1]

theorem mmc3ApplyPrg_get (s : State) {i : Fin 16} (hi : 8 ≤ i.val) :
    (mmc3ApplyPrg s).pages.get i = prgPage s.cart 8 ((mmc3PrgBanks s).getD (i.val / 2 - 4) 0) (i.val % 2) := by
  have hwindow : i.val / 2 - 4 < 4 := by omega
  unfold mmc3ApplyPrg mmc3PrgBanks
  dsimp only
  cases s.mmc3.command.getLsbD 6 with
  | true =>
    rw [if_pos rfl, if_pos rfl, bankPrg_four_get _ _ _ _ _ hi]
    generalize i.val / 2 - 4 = w at hwindow
    interval_cases w
    · rfl
    · rfl
    · rfl
    · exact prgEntry_last s.cart 8 _
  | false =>
    rw [if_neg Bool.false_ne_true, if_neg Bool.false_ne_true, bankPrg_four_get _ _ _ _ _ hi]
    generalize i.val / 2 - 4 = w at hwindow
    interval_cases w
    · rfl
    · rfl
    · rfl
    · exact prgEntry_last s.cart 8 _

/-- The two 2 KB banks, each as two 1 KB banks (R524). -/
def mmc3ChrTwo (m : Mmc3) : List Byte := [m.bank.get 0 &&& 0xFE, m.bank.get 0 ||| 1, m.bank.get 1 &&& 0xFE, m.bank.get 1 ||| 1]

/-- The four 1 KB banks (R524). -/
def mmc3ChrOne (m : Mmc3) : List Byte := [m.bank.get 2, m.bank.get 3, m.bank.get 4, m.bank.get 5]

/-- The bank of a 1 KB window, from the list of banks as bytes. -/
theorem chrEntry_byte (c : Cart) (b : Byte) : chrEntry c.chrBytes (1024 * 1) (.index b.toNat) 0 = chrPage c 1 b.toNat 0 := rfl

/-- Each half of the pattern tables shows one of the two rows of banks; the two 2 KB banks stand in half 1 where bit 7 is set (R524). -/
theorem mmc3ApplyChr_row (s : State) {i : Fin 16} (hi : i.val < 8) :
    (mmc3ApplyChr s).ppu.pages.get i = chrPage s.cart 1
      ((if i.val / 4 = (if s.mmc3.command.getLsbD 7 then 1 else 0) then mmc3ChrTwo s.mmc3 else mmc3ChrOne s.mmc3).getD
        (i.val % 4) 0).toNat 0 := by
  have htwo : (if s.mmc3.command.getLsbD 7 then 0x1000 else 0x0000) = 0x1000 * (if s.mmc3.command.getLsbD 7 then 1 else 0) := by
    split <;> rfl
  have hone : (if s.mmc3.command.getLsbD 7 then 0x0000 else 0x1000) = 0x1000 * (if s.mmc3.command.getLsbD 7 then 0 else 1) := by
    split <;> rfl
  have hplace : i.val % 4 < 4 := Nat.mod_lt _ (by decide)
  unfold mmc3ApplyChr
  dsimp only
  rw [bankChr_four_get hone, bankChr_four_get htwo]
  simp only [bankChr_cart]
  by_cases hhalf : i.val / 4 = if s.mmc3.command.getLsbD 7 then 1 else 0
  · have hother : ¬ i.val / 4 = if s.mmc3.command.getLsbD 7 then 0 else 1 := by
      rw [hhalf]
      split <;> decide
    rw [if_neg hother, if_pos hhalf, if_pos hhalf]
    generalize i.val % 4 = w at hplace
    interval_cases w
    · exact chrEntry_byte s.cart (s.mmc3.bank.get 0 &&& 0xFE)
    · exact chrEntry_byte s.cart (s.mmc3.bank.get 0 ||| 1)
    · exact chrEntry_byte s.cart (s.mmc3.bank.get 1 &&& 0xFE)
    · exact chrEntry_byte s.cart (s.mmc3.bank.get 1 ||| 1)
  · have hother : i.val / 4 = if s.mmc3.command.getLsbD 7 then 0 else 1 := by
      revert hhalf
      split <;> omega
    rw [if_pos hother, if_neg hhalf]
    generalize i.val % 4 = w at hplace
    interval_cases w <;> rfl

theorem mmc3ApplyChr_get (s : State) {i : Fin 16} (hi : i.val < 8) :
    (mmc3ApplyChr s).ppu.pages.get i = chrPage s.cart 1
      ((if s.mmc3.command.getLsbD 7 then mmc3ChrOne s.mmc3 ++ mmc3ChrTwo s.mmc3
        else mmc3ChrTwo s.mmc3 ++ mmc3ChrOne s.mmc3).getD i.val 0).toNat 0 := by
  have hjoin (p q : List Byte) (hp : p.length = 4) :
      (p ++ q).getD i.val 0 = (if i.val / 4 = 0 then p else q).getD (i.val % 4) 0 := by
    by_cases h : i.val / 4 = 0
    · rw [if_pos h, List.getD_append _ _ _ _ (by omega), Nat.mod_eq_of_lt (by omega)]
    · rw [if_neg h, List.getD_append_right _ _ _ _ (by omega), hp, show i.val - 4 = i.val % 4 by omega]
  rw [mmc3ApplyChr_row s hi]
  cases s.mmc3.command.getLsbD 7 with
  | true =>
    have hhalf : i.val / 4 = 1 ↔ ¬ i.val / 4 = 0 := by omega
    simp only [if_true, hjoin (mmc3ChrOne s.mmc3) _ rfl, hhalf, ite_not]
  | false => simp only [Bool.false_eq_true, if_false, hjoin (mmc3ChrTwo s.mmc3) _ rfl]

theorem mmc3ApplyChr_get_nametable (s : State) {i : Fin 16} (hi : 8 ≤ i.val) : (mmc3ApplyChr s).ppu.pages.get i = s.ppu.pages.get i := by
  have hbank (half : Bool) (x y off : Nat) (hx : x ≤ 0x1000 ∧ y ≤ 0x1000) (ho : off < 0x1000) (b : Bank) (u : State) :
      (bankChr 1 ((if half then x else y) + off) b u).ppu.pages.get i = u.ppu.pages.get i := by
    refine bankChr_get_nametable ?_ b u hi
    split <;> omega
  unfold mmc3ApplyChr
  dsimp only
  iterate 8 rw [hbank _ _ _ _ (by decide) (by decide)]

/-- Applying the MMC3 mapping (R524). -/
theorem mmc3Apply_maps (s : State) :
    OnlyMaps s (mmc3Apply s) ∧
    (∀ i : Fin 16, 8 ≤ i.val → (mmc3Apply s).pages.get i = (mmc3ApplyPrg s).pages.get i) ∧
    (∀ i : Fin 16, i.val < 8 → (mmc3Apply s).ppu.pages.get i = (mmc3ApplyChr s).ppu.pages.get i) ∧
    ∀ i : Fin 16, 8 ≤ i.val → (mmc3Apply s).ppu.pages.get i = s.ppu.pages.get i := by
  obtain ⟨hppu, hcart, -, h3⟩ := mmc3ApplyPrg_keeps s
  refine ⟨(mmc3Apply_frame s).onlyMaps (mmc3Apply_keeps s).1 (mmc3Apply_keeps s).2, ?_, ?_, ?_⟩
  · intro i _
    unfold mmc3Apply
    rw [(mmc3ApplyChr_keeps _).1]
  · intro i hi
    unfold mmc3Apply
    rw [mmc3ApplyChr_get _ hi, mmc3ApplyChr_get _ hi, hcart, h3]
  · intro i hi
    unfold mmc3Apply
    rw [mmc3ApplyChr_get_nametable _ hi, hppu]

/-! ### MMC3: the scanline counter -/

/-- An IRQ leaves MMC3, the frame loop and the PPU's control registers as they are. -/
theorem irq_keeps_counting (s : State) :
    (irq s).mmc3 = s.mmc3 ∧ (irq s).orch = s.orch ∧ (irq s).ppu.ctrl1 = s.ppu.ctrl1 := by
  have hentry := entered_readFrame false s.cpu.pc irqVector s
  have hctrl : (entered false s.cpu.pc irqVector s).ppu.ctrl1 = s.ppu.ctrl1 := by rw [hentry.ppu]
  unfold irq
  rw [interrupt_eq_entered]
  split
  · exact ⟨rfl, rfl, rfl⟩
  · split
    · exact ⟨rfl, rfl, rfl⟩
    · rw [addBurn_mmc3, addBurn_orch, addBurn_ppu]
      exact ⟨hentry.mmc3, hentry.orch, hctrl⟩

theorem mmc3Hblank_of_masked {s : State} (h : s.orch.inVblank = true ∨ rendering s = false) : mmc3Hblank s = s := by
  refine if_neg ?_
  rw [Bool.and_eq_true, Bool.not_eq_true']
  rintro ⟨hvisible, hrender⟩
  rcases h with hv | hr
  · exact Bool.false_ne_true (hvisible.symm.trans hv)
  · exact Bool.false_ne_true (hr.symm.trans hrender)

/-- A qualifying call counts down, and raises the IRQ where it finds 0 and the interrupt enabled (R532). -/
theorem mmc3Hblank_qualifying {s : State} (hv : s.orch.inVblank = false) (hr : rendering s = true) :
    mmc3Hblank s =
      if s.mmc3.irqCounter = 0 ∧ s.mmc3.irqEnabled = true then irq { s with mmc3 := { s.mmc3 with irqCounter := s.mmc3.irqCounter - 1 } }
      else { s with mmc3 := { s.mmc3 with irqCounter := s.mmc3.irqCounter - 1 } } := by
  refine if_pos ?_
  rw [Bool.and_eq_true, Bool.not_eq_true']
  exact ⟨hv, hr⟩

/-- A qualifying call moves of MMC3 the counter alone, and the next call qualifies too. -/
theorem mmc3Hblank_keeps {s : State} (hv : s.orch.inVblank = false) (hr : rendering s = true) :
    (mmc3Hblank s).mmc3 = { s.mmc3 with irqCounter := s.mmc3.irqCounter - 1 } ∧ (mmc3Hblank s).orch.inVblank = false ∧
      rendering (mmc3Hblank s) = true := by
  rw [mmc3Hblank_qualifying hv hr]
  split
  · obtain ⟨hmmc3, horch, hctrl⟩ := irq_keeps_counting { s with mmc3 := { s.mmc3 with irqCounter := s.mmc3.irqCounter - 1 } }
    unfold rendering
    rw [hmmc3, horch, hctrl]
    exact ⟨rfl, hv, hr⟩
  · exact ⟨rfl, hv, hr⟩

/-- `k` qualifying calls take `k` off the counter. -/
theorem hblanks_counter (k : Nat) {s : State} (hv : s.orch.inVblank = false) (hr : rendering s = true) :
    (hblanks k s).mmc3 = { s.mmc3 with irqCounter := s.mmc3.irqCounter - k } ∧ (hblanks k s).orch.inVblank = false ∧
      rendering (hblanks k s) = true := by
  induction k with
  | zero =>
    refine ⟨?_, hv, hr⟩
    rw [Int.natCast_zero, Int.sub_zero]
    rfl
  | succ k ih =>
    obtain ⟨hcount, hv', hr'⟩ := ih
    obtain ⟨hstep, hnext⟩ := mmc3Hblank_keeps hv' hr'
    refine ⟨hstep.trans ?_, hnext⟩
    rw [hcount]
    dsimp only
    rw [Int.natCast_succ, Int.sub_sub]

/-! ### MMC3: the registers -/

/-- MMC3 claims every write from $8000 on (63_mapper.md R521). -/
theorem memWrite_mmc3 {a : Addr} {s : State} (hm : s.cart.mapper = 4) (ha : 0x8000 ≤ a.toNat) (d : Byte) :
    memWrite a d s = mmc3Write a d s := by
  have hlt := a.isLt
  have hlookup : (writeTable s.cart.mapper).lookup a.toNat = some .mmc3 := by
    rw [hm]
    simp only [writeTable, defaultWriteTable, mapperWriteTable, List.cons_append, List.nil_append, HandlerTable.lookup]
    repeat rw [if_neg (by omega)]
    exact if_pos (by omega)
  unfold memWrite
  rw [if_neg (by omega), hlookup]
  rfl

theorem getLsbD_zero_of_even {a : Addr} (h : a.toNat % 2 = 0) : a.getLsbD 0 = false := by
  rw [BitVec.getLsbD, Nat.testBit_zero, h]
  rfl

theorem getLsbD_zero_of_odd {a : Addr} (h : a.toNat % 2 = 1) : a.getLsbD 0 = true := by
  rw [BitVec.getLsbD, Nat.testBit_zero, h]
  rfl

/-- The mirroring register (R526). -/
theorem mmc3Write_mirroring {a : Addr} (hk : a.toNat / 8192 % 4 = 1) (heven : a.getLsbD 0 = false) (d : Byte) (s : State) :
    mmc3Write a d s = if s.cart.fourScreen then s else ppuMirror (if d.getLsbD 0 then .horizontal else .vertical) s := by
  simp only [mmc3Write, hk, heven]

/-- Settles O54: the counter by induction on the calls, each register by the bits that name it, and the rows of banks that `Apply()` sets. -/
theorem mmc3Interrupt : Obligations.Mmc3Interrupt := by
  unfold Obligations.Mmc3Interrupt
  refine ⟨?_, fun s => mmc3Hblank_of_masked, ?_, ?_⟩
  · intro s t bank n8 two one prg
    obtain ⟨honly, hprg, hchr, hnt⟩ := mmc3Apply_maps s
    exact ⟨honly, fun i hi => (hprg i hi).trans (mmc3ApplyPrg_get s hi), fun i hi => (hchr i hi).trans (mmc3ApplyChr_get s hi), hnt⟩
  · intro k s hv hr u down
    obtain ⟨hcount, hv', hr'⟩ := hblanks_counter k hv hr
    have hleft : u.mmc3.irqCounter = s.mmc3.irqCounter - k := congrArg Mmc3.irqCounter hcount
    have hraises : (u.mmc3.irqCounter = 0 ∧ u.mmc3.irqEnabled = true) ↔ (s.mmc3.irqCounter = k ∧ s.mmc3.irqEnabled = true) := by
      have henabled : u.mmc3.irqEnabled = s.mmc3.irqEnabled := (congrArg Mmc3.irqEnabled hcount).trans rfl
      rw [hleft, henabled, Int.sub_eq_zero]
    have hdown : { u with mmc3 := { u.mmc3 with irqCounter := u.mmc3.irqCounter - 1 } } = down := by
      rw [hleft, Int.sub_sub]
    have hnext : hblanks (k + 1) s = if s.mmc3.irqCounter = k ∧ s.mmc3.irqEnabled = true then irq down else down := by
      refine (mmc3Hblank_qualifying hv' hr').trans ?_
      rw [hdown]
      exact if_congr hraises rfl rfl
    exact ⟨hleft, fun h => hnext.trans (if_pos h), fun h => hnext.trans (if_neg h)⟩
  · intro a d s hm
    have hlt := a.isLt
    refine ⟨fun hlow hhigh heven => ?_, fun hlow hhigh hodd => ?_, fun hlow heven => ?_, fun hlow hodd => ?_, fun hlow hhigh hodd => ?_,
      fun hlow hhigh heven => ?_, fun hlow hhigh hodd => ?_, fun hlow hhigh heven => ?_⟩
    · have hk : a.toNat / 8192 % 4 = 2 := by omega
      rw [memWrite_mmc3 hm (by omega)]
      simp only [mmc3Write, hk, getLsbD_zero_of_even heven]
    · have hk : a.toNat / 8192 % 4 = 2 := by omega
      rw [memWrite_mmc3 hm (by omega)]
      simp only [mmc3Write, hk, getLsbD_zero_of_odd hodd]
    · have hk : a.toNat / 8192 % 4 = 3 := by omega
      rw [memWrite_mmc3 hm (by omega)]
      simp only [mmc3Write, hk, getLsbD_zero_of_even heven]
    · have hk : a.toNat / 8192 % 4 = 3 := by omega
      rw [memWrite_mmc3 hm (by omega)]
      simp only [mmc3Write, hk, getLsbD_zero_of_odd hodd]
    · have hk : a.toNat / 8192 % 4 = 1 := by omega
      rw [memWrite_mmc3 hm (by omega)]
      simp only [mmc3Write, hk, getLsbD_zero_of_odd hodd]
    · have hk : a.toNat / 8192 % 4 = 0 := by omega
      rw [memWrite_mmc3 hm (by omega)]
      simp only [mmc3Write, hk, getLsbD_zero_of_even heven]
    · have hk : a.toNat / 8192 % 4 = 0 := by omega
      rw [memWrite_mmc3 hm (by omega)]
      simp only [mmc3Write, hk, getLsbD_zero_of_odd hodd]
    · intro t
      have ht : t = if s.cart.fourScreen then s else ppuMirror (if d.getLsbD 0 then .horizontal else .vertical) s :=
        (memWrite_mmc3 hm (by omega) d).trans (mmc3Write_mirroring (by omega) (getLsbD_zero_of_even heven) d s)
      refine ⟨fun h4 => ht.trans (if_pos h4), fun h4 => ?_⟩
      rw [ht, if_neg (h4 ▸ Bool.false_ne_true)]
      have hmirror : (if d.getLsbD 0 then [0, 0, 1, 1] else [0, 1, 0, 1]) =
          (if d.getLsbD 0 then Mirror.horizontal else Mirror.vertical).quadrants := by
        split <;> rfl
      refine ⟨(ppuMirror_frame _ s).onlyMaps (ppuMirror_mmc1 _ s) (ppuMirror_mmc3 _ s), ppuMirror_pages _ s, ?_, fun i hi => ?_⟩
      · rw [hmirror]
        exact mirrored_of_nametables fun _ _ => rfl
      · rw [ppuMirror_get, if_neg (by omega)]

end Sys2Proof.Machine

/-! SUPPORT. The frame loop, the frame IRQ, the joypads and the save states as the claims describe them (64_frame_sync.md R550, R560, R571-R581;
70_reset_and_hazards.md R612). -/

namespace Sys2Proof.Machine

open Sys2Proof.Claims

/-! ### The frame IRQ -/

/-- A tick that uses the period up starts the next one, and raises the IRQ unless the last $4017 write masks it (R560). -/
theorem fiqTick_of_le {e : Nat} {s : State} (h : s.fiq.cycles - e ≤ 0) :
    fiqTick e s = if fiqMasked s then { s with fiq := { s.fiq with cycles := s.fiq.cycles - e + 29829 } }
      else irq { s with fiq := { s.fiq with cycles := s.fiq.cycles - e + 29829, occurred := true } } := if_pos h

theorem memWrite_fiqState (d : Byte) (s : State) : memWrite 0x4017 d s = writeFiqState d s := rfl

/-- Settles O55: the tick by its two cases, and the end of a slice by the state's reading of log 36. -/
theorem frameInterrupt : Obligations.FrameInterrupt := by
  unfold Obligations.FrameInterrupt
  refine ⟨?_, rfl, ?_⟩
  · intro e s left
    refine ⟨fun hleft => fiqTick_of_lt (Int.sub_pos.mp hleft), fun hleft hmask => ?_, fun hleft h7 h6 => ?_, settleFiqRestart_of_not_restarted,
      fun hrestarted hend => settleFiqRestart_atSliceEnd hend hrestarted, settleFiqRestart_atWrite⟩
    · rw [fiqTick_of_le hleft, fiqMasked_eq, if_pos (Bool.or_eq_true_iff.mpr hmask)]
    · rw [fiqTick_of_le hleft, fiqMasked_eq, h7, h6]
      rfl
  · intro d s t
    refine ⟨rfl, fun e he => ?_, ?_, ?_⟩
    · have htick : fiqTick e t = { t with fiq := { t.fiq with cycles := 29829 - (e : Int) } } :=
        fiqTick_of_lt (s := t) (Int.ofNat_lt.mpr he)
      rw [htick]
      exact ⟨fun hend => settleFiqRestart_atSliceEnd (s := { t with fiq := { t.fiq with cycles := 29829 - (e : Int) } }) hend rfl,
        fun hwrite => settleFiqRestart_atWrite (s := { t with fiq := { t.fiq with cycles := 29829 - (e : Int) } }) hwrite⟩
    · rw [memRead_apu (by decide) (by decide), apuRead_status_getLsbD]
      simp
    · rw [memRead_apu (by decide) (by decide), apuRead_status]

/-! ### The joypads -/

/-- $4016 and $4017 reads are joypad reads (20_memory.md R136). -/
theorem memRead_pad {a : Addr} (hlow : 0x4016 ≤ a.toNat) (hhigh : a.toNat ≤ 0x4017) (s : State) :
    memRead a s = padRead (a.toNat - 0x4016) s := by
  have hhandler : readTable.lookup a.toNat = some .pad := by
    simp only [readTable, HandlerTable.lookup]
    rw [if_neg (by omega), if_neg (by omega), if_neg (by omega), if_pos ⟨hlow, hhigh⟩]
  rw [memRead, if_neg (by omega), if_neg (by omega), hhandler]
  rfl

/-- The first eight reads after a strobe report a button (R571). -/
theorem padRead_button {p : Nat} {s : State} (h : s.pads.index p < 8) :
    padRead p s = (bitAt (Config.inputOracle p (s.pads.index p) s.draws) 0 ||| (Config.draw s.draws &&& 0xFE),
      { s with pads := s.pads.advance p, draws := s.draws + 1 }) := if_pos h

/-- Later reads are draws (R571). -/
theorem padRead_draw {p : Nat} {s : State} (h : 8 ≤ s.pads.index p) : padRead p s = takeDraw s := if_neg (by omega)

theorem getLsbD_maskFE : ∀ j, j < 8 → (0xFE : Byte).getLsbD j = decide (j ≠ 0) := by decide

theorem padRead_button_getLsbD {p : Nat} {s : State} (h : s.pads.index p < 8) {j : Nat} (hj : j < 8) :
    (padRead p s).1.getLsbD j =
      if j = 0 then Config.inputOracle p (s.pads.index p) s.draws else (Config.draw s.draws).getLsbD j := by
  rw [padRead_button h]
  dsimp only
  rw [BitVec.getLsbD_or, BitVec.getLsbD_and, bitAt_getLsbD _ (by decide), getLsbD_maskFE j hj]
  by_cases h0 : j = 0 <;> simp [h0]

/-- Bits 7 to 1 of every read are a draw's. -/
theorem padRead_high_getLsbD (p : Nat) (s : State) {j : Nat} (hlow : 1 ≤ j) (hhigh : j < 8) :
    (padRead p s).1.getLsbD j = (Config.draw s.draws).getLsbD j := by
  by_cases h : s.pads.index p < 8
  · rw [padRead_button_getLsbD h hhigh, if_neg (by omega)]
  · rw [padRead_draw (by omega), takeDraw_value]

/-- Settles O56, by the reads before and after the eighth. -/
theorem joypads : Obligations.Joypads := by
  unfold Obligations.Joypads
  intro d s
  have hpad0 : memRead 0x4016 s = padRead 0 s := memRead_pad (by decide) (by decide) s
  have hpad1 : memRead 0x4017 s = padRead 1 s := memRead_pad (by decide) (by decide) s
  rw [hpad0, hpad1]
  refine ⟨rfl, fun j hlow hhigh => ⟨padRead_high_getLsbD 0 s hlow hhigh, padRead_high_getLsbD 1 s hlow hhigh⟩, fun h0 => ?_, fun h1 => ?_,
    fun h0 => padRead_draw (p := 0) h0, fun h1 => padRead_draw (p := 1) h1⟩
  · exact ⟨padRead_button_getLsbD (p := 0) h0 (by decide), congrArg Prod.snd (padRead_button (p := 0) h0)⟩
  · exact ⟨padRead_button_getLsbD (p := 1) h1 (by decide), congrArg Prod.snd (padRead_button (p := 1) h1)⟩

/-! ### The frame loop -/

theorem entered_orch (b : Bool) (pc vector : Addr) (s : State) : (entered b pc vector s).orch = s.orch :=
  (entered_readFrame b pc vector s).orch

theorem irq_orch (s : State) : (irq s).orch = s.orch := (irq_keeps_counting s).2.1

theorem nmi_orch (s : State) : (nmi s).orch = s.orch := by
  unfold nmi
  rw [interrupt_eq_entered]
  split
  · rfl
  · rw [addBurn_orch, entered_orch]

/-- The entry of a slice leaves the frame loop's state. -/
theorem enterExecute_orch (n : Int) (s : State) : (enterExecute n s).orch = s.orch := by
  cases hrefused : s.run.refused with
  | true => rw [enterExecute_of_refused hrefused]
  | false =>
    rw [enterExecute_eq hrefused]
    by_cases htakes : TakesIrq (burnPaid n s)
    · rw [takePendingIrq_of_takes htakes]
      exact entered_orch _ _ _ (burnPaid n s)
    · rw [takePendingIrq_of_not_takes htakes]
      rfl

theorem beginSlice_eq (k : SliceKind) (n : Int) (s : State) :
    beginSlice k n s = { enterExecute n s with orch := { s.orch with phase := .slice k s.run.cycles } } := by
  unfold beginSlice
  dsimp only
  rw [enterExecute_orch]

theorem startLineSlice_eq (s : State) : startLineSlice s = lineSlice s := by
  unfold startLineSlice
  dsimp only
  rw [beginSlice_eq]
  rfl

theorem PpuFrame.orch {s t : State} (h : PpuFrame s t) : t.orch = s.orch := (congrArg State.orch h).trans rfl

theorem PpuFrame.run {s t : State} (h : PpuFrame s t) : t.run = s.run := (congrArg State.run h).trans rfl

theorem fiqTick_orch (e : Nat) (s : State) : (fiqTick e s).orch = s.orch := by
  by_cases h : s.fiq.cycles - e ≤ 0
  · rw [fiqTick_of_le h]
    split
    · rfl
    · rw [irq_orch]
  · rw [fiqTick_of_lt (by omega)]

/-- The end of a slice takes its cycles off the accumulator, and leaves the rest of the frame loop's state. -/
theorem settleSlice_orch (start : Nat) (s : State) :
    (settleSlice start s).orch = { s.orch with acc := s.orch.acc - 12 * ((s.run.cycles - start : Nat) : Int) } :=
  fiqTick_orch _ { s with orch := { s.orch with acc := s.orch.acc - 12 * ((s.run.cycles - start : Nat) : Int) } }

/-- The end of the 7-cycle slice of line 241 (R552 step 2). -/
theorem endNmiDelay_eq (start : Nat) (s : State) :
    endNmiDelay start s = lineSlice { (if (settleSlice start s).ppu.ctrl0.getLsbD 7 then nmi (settleSlice start s) else settleSlice start s) with
      orch := { (settleSlice start s).orch with inVblank := true } } := by
  have horch : (if (settleSlice start s).ppu.ctrl0.getLsbD 7 then nmi (settleSlice start s) else settleSlice start s).orch =
      (settleSlice start s).orch := by
    split
    · exact nmi_orch _
    · rfl
  rw [← startLineSlice_eq, ← horch]
  rfl

/-- The end of a line's own slice (R552 steps 5 and 6). -/
theorem endLineSlice_eq (start : Nat) (s : State) :
    endLineSlice start s = { ppuEndScanline s.orch.scanline (settleSlice start s) with
      orch := { (settleSlice start s).orch with scanline := s.orch.scanline + 1, phase := .lineStart } } := by
  have hscanline : (settleSlice start s).orch.scanline = s.orch.scanline := by rw [settleSlice_orch]
  unfold endLineSlice
  dsimp only
  rw [hscanline, (ppuEndScanline_ppuFrame _ _).orch, hscanline]

/-- The CPU pages after an eject: CPU RAM and nothing else (log 20). -/
theorem ejectedPages_get : ∀ i : Fin 16, (i.val < 2 → ejectedPages.get i = .mapped .ram 0) ∧ (2 ≤ i.val → ejectedPages.get i = .dead) := by
  decide

/-- Settles O57, by the phase of the frame loop, and by the call that runs between frames. -/
theorem frameLoop : Obligations.FrameLoop := by
  unfold Obligations.FrameLoop
  refine ⟨?_, ?_, ?_, ?_, ?_⟩
  · intro s hphase u
    have hframe : PpuFrame s u := ppuScanline_ppuFrame _ _ s
    rw [step_of_lineStart hphase]
    unfold startLine
    refine ⟨fun h262 => ?_, fun h241 => ?_, fun h262 h241 => ?_⟩
    · rw [if_pos h262]
    · rw [if_neg (by omega), if_pos h241, beginSlice_eq, hframe.run]
      rfl
    · rw [if_neg h262, if_neg h241, startLineSlice_eq]
  · intro k start s hphase hrun e p q r
    rw [step_of_sliceEnd hphase hrun]
    refine ⟨fun hk => ?_, fun hk => ?_⟩
    · rw [hk]
      exact congrArg Host.Outcome.next (endNmiDelay_eq start s)
    · rw [hk]
      exact congrArg Host.Outcome.next (endLineSlice_eq start s)
  · intro rest s hphase u runs
    have hruns (c : HostCall) (t : State) (h : runCall c u = .next t) : runs c t := fun hcalls =>
      (step_of_call hphase hcalls).trans h
    refine ⟨fun image battery => hruns _ _ rfl, fun hcart => ?_⟩
    have hattached : u.cart.attached = true := hcart
    exact ⟨fun draw => hruns _ _ (if_pos hattached), hruns _ _ (if_pos hattached), hruns _ _ (if_pos hattached),
      fun n => hruns _ _ (if_pos hattached), hruns _ _ (if_pos hattached), fun k => hruns _ _ (if_pos hattached), hruns _ _ (if_pos hattached)⟩
  · intro s hphase hcalls
    rw [step_of_idle hphase, idleStep_of_no_call hcalls]
    refine ⟨fun hcart => ?_, fun hcart => ?_⟩
    · rw [if_pos hcart]
      rfl
    · rw [if_neg (hcart ▸ Bool.false_ne_true)]
  · intro s t
    exact ⟨rfl, rfl, fun i => ⟨fun hlow => ⟨0, (ejectedPages_get i).1 hlow⟩, (ejectedPages_get i).2⟩⟩

/-! ### Save states -/

/-- Settles O60: a load tests the image, and then restores all but `refused` and the side of the host. -/
theorem saveAndLoad : Obligations.SaveAndLoad := by
  unfold Obligations.SaveAndLoad
  intro s u k same
  have hsame : sameImage k u = true ↔ same := sameImage_iff
  have hself : sameImage k s = true := sameImage_iff.mpr ⟨rfl, rfl, .inr rfl⟩
  refine ⟨loadSnapshot_of_same hself, fun h => ?_, fun h => loadSnapshot_of_other (mt hsame.mp h), fun k' => loadSnapshot_image k' u⟩
  rw [loadSnapshot_of_same (hsame.mpr h)]
  exact ⟨rfl, rfl⟩

end Sys2Proof.Machine

/-! SUPPORT. Soft and hard reset (70_reset_and_hazards.md R590-R595): the state before the CPU's reset field by field, the initial mapping of
63_mapper.md R507, and the draws of a hard reset. -/

namespace Sys2Proof.Machine

open Sys2Proof.Claims

/-! ### The CPU's reset -/

/-- Reads through the page table move only the count of draws. -/
theorem memRead_page_state {a : Addr} (h : 0x4018 ≤ a.toNat) (s : State) : ∃ n, (memRead a s).2 = { s with draws := n } := by
  rw [memRead_page h]
  unfold pageRead
  split
  · exact ⟨s.draws, rfl⟩
  · exact ⟨s.draws, rfl⟩
  · exact ⟨s.draws, rfl⟩
  · exact ⟨s.draws + 1, rfl⟩

/-- The reset vector lies on the page table. -/
theorem memRead16_resetVector_state (s : State) : ∃ n, (memRead16 resetVector s).2 = { s with draws := n } := by
  obtain ⟨m, hlow⟩ := memRead_page_state (a := resetVector) (by decide) s
  obtain ⟨n, hhigh⟩ := memRead_page_state (a := resetVector + 1) (by decide) (memRead resetVector s).2
  refine ⟨n, hhigh.trans ?_⟩
  rw [hlow]

/-- The CPU's reset moves the CPU, its run state and the count of draws. -/
theorem cpuReset_frame (s : State) : ∃ c r n, cpuReset s = { s with cpu := c, run := r, draws := n } := by
  cases hrefused : s.run.refused with
  | true => exact ⟨s.cpu, s.run, s.draws, cpuReset_of_refused hrefused⟩
  | false =>
    obtain ⟨n, hread⟩ := memRead16_resetVector_state (resetting s)
    rw [cpuReset_eq hrefused, hread]
    exact ⟨_, _, _, rfl⟩

/-- What the reset of a CPU that is not refused leaves in it (R590). -/
theorem cpuReset_cpu {s : State} (h : s.run.refused = false) :
    (cpuReset s).cpu = { s.cpu with f := { (cpuReset s).cpu.f with i := true }, pc := (cpuReset s).cpu.pc } ∧
      (cpuReset s).cpu.f.i = true ∧
      (cpuReset s).run = { s.run with intPending := false, jammed := false, burn := Config.resetCycles } := by
  rw [cpuReset_eq h]
  exact ⟨rfl, rfl, rfl⟩

/-- pc is the word that the machine shows at $FFFC. -/
theorem cpuReset_pc {s : State} (h : s.run.refused = false) {lo hi : Byte} (hlo : peek 0xFFFC s = some lo) (hhi : peek 0xFFFD s = some hi) :
    (cpuReset s).cpu.pc = hi ++ lo := by
  have hlow : memRead resetVector (resetting s) = (lo, resetting s) :=
    memRead_of_peek ((peek_congr (s := s) (t := resetting s) rfl rfl _).trans hlo)
  have hhigh : memRead (resetVector + 1) (resetting s) = (hi, resetting s) :=
    memRead_of_peek ((peek_congr (s := s) (t := resetting s) rfl rfl _).trans hhi)
  have hword : (memRead16 resetVector (resetting s)).1 = hi ++ lo := by
    unfold memRead16
    rw [hlow]
    dsimp only
    rw [hhigh]
    rfl
  rw [cpuReset_eq h]
  exact hword

/-! ### The initial mapping -/

theorem mapperInit_mmc1 {s : State} (h : s.cart.mapper = 1) : mapperInit s = mmc1Init s := by
  simp only [mapperInit, h]

theorem mapperInit_mmc3 {s : State} (h : s.cart.mapper = 4) : mapperInit s = mmc3Apply s := by
  simp only [mapperInit, h]

theorem mapperInit_other {s : State} (h1 : s.cart.mapper ≠ 1) (h4 : s.cart.mapper ≠ 4) : mapperInit s = s := by
  unfold mapperInit
  split
  · next h => exact absurd h h1
  · next h => exact absurd h h4
  · rfl

/-- A mapper's `init()` leaves the nametables (R515, R524). -/
theorem mapperInit_get_nametable (s : State) {i : Fin 16} (hi : 8 ≤ i.val) : (mapperInit s).ppu.pages.get i = s.ppu.pages.get i := by
  by_cases h1 : s.cart.mapper = 1
  · rw [mapperInit_mmc1 h1]
    unfold mmc1Init
    rw [bankChr_get_nametable (by decide) _ _ hi, bankPrg_ppu, bankPrg_ppu]
  · by_cases h4 : s.cart.mapper = 4
    · rw [mapperInit_mmc3 h4]
      exact (mmc3Apply_maps s).2.2.2 i hi
    · rw [mapperInit_other h1 h4]

theorem defaultMapping_cart (s : State) : (defaultMapping s).cart = s.cart := (defaultMapping_frame s).cart

/-- The generic default's PRG banks are the first and the last (R506). -/
theorem defaultMapping_get_prg (s : State) {i : Fin 16} (hi : 8 ≤ i.val) :
    (defaultMapping s).pages.get i =
      if i.val < 12 then prgPage s.cart 16 0 (i.val - 8) else prgPage s.cart 16 (max 1 s.cart.prgBanks - 1) (i.val - 12) := by
  have hcount : max 1 (16384 * s.cart.prgBanks / (1024 * 16)) = max 1 s.cart.prgBanks := by omega
  unfold defaultMapping
  rw [ppuMirror_pages, bankChr_pages, bankPrg_two_get _ _ _ hi, prgEntry_last, hcount]
  rfl

theorem defaultMapping_get_chr (s : State) {i : Fin 16} (hi : i.val < 8) :
    (defaultMapping s).ppu.pages.get i = chrPage s.cart 8 0 i.val := by
  unfold defaultMapping
  rw [ppuMirror_get, if_neg (by omega), bankChr_get, if_pos (by omega), bankPrg_cart, bankPrg_cart]
  rfl

theorem mmc1Init_get_prg (s : State) {i : Fin 16} (hi : 8 ≤ i.val) :
    (mmc1Init s).pages.get i = if i.val < 12 then prgPage s.cart 16 0 (i.val - 8) else prgPage s.cart 16 0x0F (i.val - 12) := by
  unfold mmc1Init
  rw [bankChr_pages, bankPrg_two_get _ _ _ hi]
  rfl

theorem mmc1Init_get_chr (s : State) {i : Fin 16} (hi : i.val < 8) : (mmc1Init s).ppu.pages.get i = chrPage s.cart 8 0 i.val := by
  unfold mmc1Init
  rw [bankChr_get, if_pos (by omega), bankPrg_cart, bankPrg_cart]
  rfl

/-- With its registers initial, MMC3 maps banks 0, 1, `n8 - 2` and `n8 - 1` (R520). -/
theorem mmc3PrgBanks_reset {s : State} (h : s.mmc3 = Mmc3.reset) :
    mmc3PrgBanks s = [0, 1, s.cart.prgBanks8 - 2, s.cart.prgBanks8 - 1] := by
  unfold mmc3PrgBanks
  rw [h]
  rfl

/-- And the CHR banks 0 and 1 twice, and then bank 0 (R520). -/
theorem mmc3ChrBanks_reset (i : Nat) :
    ((if Mmc3.reset.command.getLsbD 7 then mmc3ChrOne Mmc3.reset ++ mmc3ChrTwo Mmc3.reset
      else mmc3ChrTwo Mmc3.reset ++ mmc3ChrOne Mmc3.reset).getD i 0).toNat = [0, 1, 0, 1, 0, 0, 0, 0].getD i 0 := by
  have hbanks : (if Mmc3.reset.command.getLsbD 7 then mmc3ChrOne Mmc3.reset ++ mmc3ChrTwo Mmc3.reset
      else mmc3ChrTwo Mmc3.reset ++ mmc3ChrOne Mmc3.reset) = [0, 1, 0, 1, 0, 0, 0, 0] := by decide
  rw [hbanks, ← List.getD_map (f := BitVec.toNat)]
  rfl

theorem Cart.mirror_quadrants (c : Cart) :
    c.mirror.quadrants = if c.fourScreen then [0, 1, 2, 3] else if c.vertical then [0, 1, 0, 1] else [0, 0, 1, 1] := by
  unfold Cart.mirror
  split
  · rfl
  · split <;> rfl

/-- The generic default shows the header's mirroring (R506). -/
theorem defaultMapping_mirrored (s : State) : Mirrored s.cart.mirror.quadrants (defaultMapping s) :=
  mirrored_of_nametables (s := bankChr 8 0x0000 (.index 0) (bankPrg 16 0xC000 .last (bankPrg 16 0x8000 (.index 0) s))) fun _ _ => rfl

/-- From the generic default, and with its registers initial, a mapper's `init()` makes the initial mapping (R507, R511, R515, R520). -/
theorem mapperInit_initialMapping {s : State} (hmmc3 : s.mmc3 = Mmc3.reset) (hmirror : Mirrored s.cart.mirror.quadrants s)
    (hprg : ∀ i : Fin 16, 8 ≤ i.val → s.pages.get i =
      if i.val < 12 then prgPage s.cart 16 0 (i.val - 8) else prgPage s.cart 16 (max 1 s.cart.prgBanks - 1) (i.val - 12))
    (hchr : ∀ i : Fin 16, i.val < 8 → s.ppu.pages.get i = chrPage s.cart 8 0 i.val) : InitialMapping (mapperInit s) := by
  have hcart : (mapperInit s).cart = s.cart := (mapperInit_frame s).cart
  unfold InitialMapping
  rw [hcart]
  refine ⟨fun i hi => ?_, fun i hi => ?_, fun i hi => ?_⟩
  · rw [mapperInit_get_nametable s hi, ← Cart.mirror_quadrants]
    exact hmirror i hi
  · by_cases h4 : s.cart.mapper = 4
    · rw [if_pos h4, mapperInit_mmc3 h4, (mmc3Apply_maps s).2.1 i hi, mmc3ApplyPrg_get s hi, mmc3PrgBanks_reset hmmc3]
      rfl
    · rw [if_neg h4]
      by_cases h1 : s.cart.mapper = 1
      · rw [if_pos h1, mapperInit_mmc1 h1, mmc1Init_get_prg s hi]
      · rw [if_neg h1, mapperInit_other h1 h4, hprg i hi]
  · by_cases h4 : s.cart.mapper = 4
    · rw [if_pos h4, mapperInit_mmc3 h4, (mmc3Apply_maps s).2.2.1 i hi, mmc3ApplyChr_get s hi, hmmc3, mmc3ChrBanks_reset]
    · rw [if_neg h4]
      by_cases h1 : s.cart.mapper = 1
      · rw [mapperInit_mmc1 h1, mmc1Init_get_chr s hi]
      · rw [mapperInit_other h1 h4, hchr i hi]

/-- The mapping half of a soft reset leaves the initial mapping (R507). -/
theorem mapperReset_initialMapping (s : State) : InitialMapping (mapperReset s) := by
  unfold mapperReset
  refine mapperInit_initialMapping (defaultMapping_mmc3 _) ?_ ?_ ?_
  all_goals rw [defaultMapping_cart]
  · exact defaultMapping_mirrored _
  · exact fun i hi => defaultMapping_get_prg _ hi
  · exact fun i hi => defaultMapping_get_chr _ hi

/-- The initial mapping is one of the cartridge and the page tables. -/
theorem SameMaps.initialMapping {s t : State} (h : SameMaps s t) (hs : InitialMapping s) : InitialMapping t := by
  unfold InitialMapping Mirrored at hs ⊢
  rw [h.cart, h.pages, h.ppuPages]
  exact hs

/-! ### The soft reset -/

/-- The state in which a soft reset resets the CPU: every device is reset, and the mapping is the initial one (R592). -/
def devicesReset (s : State) : State :=
  { mapperReset (apuReset (ppuReset s)) with
    orch := { s.orch with acc := 0, scanline := resetScanline }
    fiq := { cycles := (fiqPeriod : Int), state := 0, occurred := false, restarted := false }
    pads := { index0 := 0, index1 := 0 } }

theorem softReset_eq (s : State) : softReset s = cpuReset (devicesReset s) := by
  have horch : (mapperReset (apuReset (ppuReset s))).orch = s.orch := (mapperReset_frame _).1.orch
  unfold softReset devicesReset
  dsimp only
  rw [horch]

/-- What the reset of the devices leaves. -/
theorem devicesReset_eq (s : State) :
    devicesReset s = { s with
      pages := (devicesReset s).pages
      ppu := { (ppuReset s).ppu with pages := (devicesReset s).ppu.pages }
      apu := Apu.reset
      mmc1 := Mmc1.reset
      mmc3 := Mmc3.reset
      orch := { s.orch with acc := 0, scanline := 241 }
      fiq := ⟨29829, 0, false, false⟩
      pads := ⟨0, 0⟩ } := by
  obtain ⟨hframe, h1, h3⟩ := mapperReset_frame (apuReset (ppuReset s))
  have hppu : (devicesReset s).ppu = { (ppuReset s).ppu with pages := (devicesReset s).ppu.pages } := hframe.ppu
  rw [← hppu]
  unfold devicesReset
  dsimp only
  rw [hframe.cpu, hframe.run, hframe.mem, hframe.apu, hframe.cart, h1, h3, hframe.host, hframe.draws, hframe.undocPolicy, hframe.fiqRestart]
  rfl

theorem devicesReset_cpu (s : State) : (devicesReset s).cpu = s.cpu := by rw [devicesReset_eq]

theorem devicesReset_run (s : State) : (devicesReset s).run = s.run := by rw [devicesReset_eq]

/-- A soft reset, the CPU and its run state apart (R592). -/
theorem softReset_frame (s : State) : ∃ c r n, softReset s = { s with
    cpu := c
    run := r
    pages := (softReset s).pages
    ppu := { (ppuReset s).ppu with pages := (softReset s).ppu.pages }
    apu := Apu.reset
    mmc1 := Mmc1.reset
    mmc3 := Mmc3.reset
    orch := { s.orch with acc := 0, scanline := 241 }
    fiq := ⟨29829, 0, false, false⟩
    pads := ⟨0, 0⟩
    draws := n } := by
  obtain ⟨c, r, n, hcpu⟩ := cpuReset_frame (devicesReset s)
  refine ⟨c, r, n, ?_⟩
  rw [softReset_eq, hcpu]
  dsimp only
  conv_lhs => rw [devicesReset_eq]

/-- A refused CPU stays as it is (R595). -/
theorem softReset_of_refused {s : State} (h : s.run.refused = true) : (softReset s).cpu = s.cpu ∧ (softReset s).run = s.run := by
  rw [softReset_eq, cpuReset_of_refused (devicesReset_run s ▸ h)]
  exact ⟨devicesReset_cpu s, devicesReset_run s⟩

/-- The CPU after the soft reset of one that is not refused (R590). -/
theorem softReset_cpu {s : State} (h : s.run.refused = false) :
    (softReset s).cpu = { s.cpu with f := { (softReset s).cpu.f with i := true }, pc := (softReset s).cpu.pc } ∧
      (softReset s).cpu.f.i = true ∧
      (softReset s).run = { s.run with intPending := false, jammed := false, burn := Config.resetCycles } := by
  have hcpu := cpuReset_cpu (s := devicesReset s) (devicesReset_run s ▸ h)
  rw [devicesReset_cpu, devicesReset_run, ← softReset_eq] at hcpu
  exact hcpu

/-- pc is the word at $FFFC as the initial mapping shows it. -/
theorem softReset_pc {s : State} (h : s.run.refused = false) {lo hi : Byte} (hlo : peek 0xFFFC (softReset s) = some lo)
    (hhi : peek 0xFFFD (softReset s) = some hi) : (softReset s).cpu.pc = hi ++ lo := by
  rw [softReset_eq] at hlo hhi ⊢
  have hsame := cpuReset_sameStore (devicesReset s)
  rw [peek_congr hsame.pages hsame.mem] at hlo hhi
  exact cpuReset_pc (devicesReset_run s ▸ h) hlo hhi

theorem softReset_initialMapping (s : State) : InitialMapping (softReset s) :=
  (softReset_sameStore s).sameMaps.initialMapping (mapperReset_initialMapping _)

/-- A 2-bank MMC1 cartridge shows its last bank at $C000 (R516). -/
theorem softReset_mmc1_last {s : State} (hm : s.cart.mapper = 1) (hbanks : s.cart.prgBanks = 2) (j : Fin 4) :
    (softReset s).pages.get ⟨12 + j.val, by omega⟩ = .mapped .prg (16384 + 4096 * j.val) := by
  have hcart : (softReset s).cart = s.cart := (softReset_sameStore s).cart.trans (mapperReset_frame _).1.cart
  obtain ⟨-, hprg, -⟩ := softReset_initialMapping s
  rw [hprg _ (by dsimp only; omega), hcart, if_neg (by omega), if_neg (by dsimp only; omega), if_pos hm,
    prgPage_16 (by omega) _ (by dsimp only; omega), hbanks]
  dsimp only
  rw [Nat.add_sub_cancel_left]

/-! ### The hard reset -/

theorem takeDraws_snd (n : Nat) (s : State) : ∃ k, (takeDraws n s).2 = { s with draws := k } := ⟨_, takeDraws_state n s⟩

/-- CHR-RAM is drawn, CHR-ROM is not (R591). -/
theorem drawChrRam_eq (s : State) :
    ∃ chr k, drawChrRam s = { s with mem := { s.mem with chr := chr }, draws := k } ∧ (s.cart.chrBanks ≠ 0 → chr = s.mem.chr) := by
  obtain ⟨k, hk⟩ := takeDraws_snd 8192 s
  unfold drawChrRam
  split
  · next h =>
    generalize takeDraws 8192 s = drawn at hk
    dsimp only
    rw [hk]
    exact ⟨_, _, rfl, fun hne => absurd h hne⟩
  · exact ⟨s.mem.chr, s.draws, rfl, fun _ => rfl⟩

/-- The draws of the PPU's memories move only their own count. -/
theorem ppuDraws_state (s : State) :
    ∃ k, (takeDraw (takeDraws 32 (takeDraws 256 (takeDraws 4096 s).2).2).2).2 = { s with draws := k } := by
  obtain ⟨k1, h1⟩ := takeDraws_snd 4096 s
  obtain ⟨k2, h2⟩ := takeDraws_snd 256 (takeDraws 4096 s).2
  obtain ⟨k3, h3⟩ := takeDraws_snd 32 (takeDraws 256 (takeDraws 4096 s).2).2
  refine ⟨k3 + 1, ?_⟩
  unfold takeDraw
  rw [h3, h2, h1]

/-- The PPU's memories are drawn, the palette to 6 bits (R591). -/
theorem drawPpuMemories_moves (s : State) :
    ∃ nt oam, ∃ pal : List Byte, ∃ rdbuf k,
      drawPpuMemories s = withPpuMemories nt oam (pal.map (fun b => b &&& 0x3F)) rdbuf s { s with draws := k } := by
  obtain ⟨k, hk⟩ := ppuDraws_state s
  refine ⟨(takeDraws 4096 s).1, (takeDraws 256 (takeDraws 4096 s).2).1, (takeDraws 32 (takeDraws 256 (takeDraws 4096 s).2).2).1,
    (takeDraw (takeDraws 32 (takeDraws 256 (takeDraws 4096 s).2).2).2).1, k, ?_⟩
  rw [← hk]
  rfl

theorem drawRegisters_moves (s : State) :
    ∃ a x y sp k, drawRegisters s = { s with cpu := { s.cpu with a := a, x := x, y := y, sp := sp }, draws := k } := ⟨_, _, _, _, _, rfl⟩

/-- What a hard reset draws (R591); `count` is the count of draws after it. -/
structure HardDrawn where
  a : Byte
  x : Byte
  y : Byte
  sp : Byte
  chr : Memory
  nt : List Byte
  oam : List Byte
  pal : List Byte
  rdbuf : Byte
  count : Nat

/-- The state with CPU RAM 0 and the draws in place. -/
def HardDrawn.applied (d : HardDrawn) (s : State) : State :=
  { s with
    cpu := { s.cpu with a := d.a, x := d.x, y := d.y, sp := d.sp }
    mem := { s.mem with
      ram := []
      chr := d.chr
      nt := Memory.ofBytes d.nt
      oam := Memory.ofBytes d.oam
      pal := Memory.ofBytes (d.pal.map (fun b => b &&& 0x3F)) }
    ppu := { s.ppu with rdbuf := d.rdbuf }
    draws := d.count }

theorem hardDraws_eq (s : State) : ∃ d : HardDrawn, hardDraws s = d.applied s ∧ (s.cart.chrBanks ≠ 0 → d.chr = s.mem.chr) := by
  obtain ⟨chr, k1, h1, hrom⟩ := drawChrRam_eq { s with mem := { s.mem with ram := [] } }
  obtain ⟨nt, oam, pal, rdbuf, k2, h2⟩ := drawPpuMemories_moves (drawChrRam { s with mem := { s.mem with ram := [] } })
  obtain ⟨a, x, y, sp, k3, h3⟩ := drawRegisters_moves (drawPpuMemories (drawChrRam { s with mem := { s.mem with ram := [] } }))
  refine ⟨⟨a, x, y, sp, chr, nt, oam, pal, rdbuf, k3⟩, ?_, hrom⟩
  unfold hardDraws
  rw [h3, h2, h1]
  rfl

/-- A palette cell holds 6 bits. -/
theorem read_palette_lt (pal : List Byte) (k : Nat) : ((Memory.ofBytes (pal.map (fun b => b &&& 0x3F))).read k).toNat < 64 := by
  have hmask : ∀ b : Byte, (b &&& 0x3F).toNat < 64 := by decide
  rw [Memory.read_ofBytes, List.getD_eq_getElem?_getD, List.getElem?_map]
  cases pal[k]? with
  | none => decide
  | some b => exact hmask b

/-- What a hard reset leaves (R591). -/
theorem hardReset_keeps (s : State) : (hardReset s).cart = s.cart ∧ (hardReset s).host = s.host ∧ (hardReset s).mem.prg = s.mem.prg ∧
    (hardReset s).mem.sram = s.mem.sram ∧ (s.cart.chrBanks ≠ 0 → (hardReset s).mem.chr = s.mem.chr) := by
  obtain ⟨d, hdraws, hrom⟩ := hardDraws_eq s
  obtain ⟨c, r, n, hsoft⟩ := softReset_frame (zeroCycles (d.applied s))
  rw [hardReset_eq, hdraws, softReset_mem]
  exact ⟨(congrArg State.cart hsoft :), (congrArg State.host hsoft :), rfl, rfl, hrom⟩

/-- Settles O58: a soft reset is the reset of the devices and then of the CPU, and a hard reset is one after the draws. -/
theorem softAndHardReset : Obligations.SoftAndHardReset := by
  unfold Obligations.SoftAndHardReset
  refine ⟨fun s => ?_, fun s => ?_⟩ <;> intro t
  · obtain ⟨c, r, n, ht⟩ := softReset_frame s
    refine ⟨softReset_mem s, (congrArg State.cart ht :), (congrArg State.host ht :), congrArg State.apu ht, congrArg State.ppu ht,
      congrArg State.mmc1 ht, congrArg State.mmc3 ht, congrArg State.orch ht, congrArg State.fiq ht, congrArg State.pads ht,
      softReset_initialMapping s, softReset_lowPages s, softReset_mmc1_last, fun _ hbanks => softReset_mapsCart fun _ => hbanks,
      softReset_of_refused, fun hrefused => ?_⟩
    obtain ⟨hcpu, -, hrun⟩ := softReset_cpu hrefused
    exact ⟨hcpu, hrun, fun lo hi => softReset_pc hrefused⟩
  · obtain ⟨d, hdraws, hrom⟩ := hardDraws_eq s
    have ht : t = softReset (zeroCycles (d.applied s)) := hdraws ▸ hardReset_eq s
    have hmem : t.mem = (d.applied s).mem := ht ▸ softReset_mem _
    rw [hmem, ht]
    refine ⟨fun _ => rfl, ?_, rfl, rfl, hrom, read_palette_lt d.pal,
      fun hrefused => (softReset_of_refused (s := zeroCycles (d.applied s)) hrefused).2, fun hrefused => ?_,
      zeroCycles (d.applied s), rfl, rfl, rfl, rfl, rfl, rfl, rfl, rfl, fun _ => rfl⟩
    · cases hrefused : s.run.refused with
      | true => exact congrArg Run.cycles (softReset_of_refused (s := zeroCycles (d.applied s)) hrefused).2
      | false => exact congrArg Run.cycles (softReset_cpu (s := zeroCycles (d.applied s)) hrefused).2.2
    · exact (softReset_cpu (s := zeroCycles (d.applied s)) hrefused).2

end Sys2Proof.Machine

/-! SUPPORT. What an insert reads of an image and where it puts it (64_frame_sync.md R577, R578, R580). -/

namespace Sys2Proof.Machine

open Sys2Proof.Claims

/-! ### The header -/

/-- A test that fails on the default finds in the first `n` entries what it finds by index, past the end too. -/
theorem any_take_eq_any_range {α : Type} {p : α → Bool} {d : α} (hd : p d = false) (n : Nat) (l : List α) :
    (l.take n).any p = (List.range n).any (fun k => p (l.getD k d)) := by
  induction n generalizing l with
  | zero => rfl
  | succ n ih =>
    rw [List.range_succ_eq_map, List.any_cons, List.any_map]
    cases l with
    | nil => simp [hd]
    | cons a l =>
      rw [List.take_succ_cons, List.any_cons, ih]
      rfl

theorem getD_drop (l : List Byte) (n k : Nat) : (l.drop n).getD k 0 = l.getD (n + k) 0 := by
  rw [List.getD_eq_getElem?_getD, List.getElem?_drop, List.getD_eq_getElem?_getD]

theorem getD_take (l : List Byte) {n k : Nat} (h : k < n) : (l.take n).getD k 0 = l.getD k 0 := by
  rw [List.getD_eq_getElem?_getD, List.getElem?_take_of_lt h, List.getD_eq_getElem?_getD]

theorem legacyHeader_eq (image : List Byte) :
    legacyHeader image = (List.range 8).any (fun k => decide (image.getD (8 + k) 0 ≠ 0)) := by
  unfold legacyHeader
  rw [any_take_eq_any_range (d := 0) rfl]
  simp only [getD_drop]

/-- The mapper nibble of flags7 comes first in the mapper number, and a legacy header drops it. -/
theorem imageMapper_eq (image : List Byte) :
    imageMapper image =
      if (List.range 8).any (fun k => decide (image.getD (8 + k) 0 ≠ 0)) then (image.getD 6 0).toNat / 16
      else 16 * ((image.getD 7 0).toNat / 16) + (image.getD 6 0).toNat / 16 := by
  unfold imageMapper
  rw [legacyHeader_eq, Nat.mul_comm 16]
  rfl

theorem supportedMapper_iff (n : Nat) : supportedMapper n = false ↔ n ≠ 0 ∧ n ≠ 1 ∧ n ≠ 4 := by
  simp [supportedMapper, and_assoc]

/-! ### The load of an image -/

/-- What makes a load fail (R577, R580). -/
def BadImage (image : List Byte) : Prop :=
  image.take 4 ≠ [0x4E, 0x45, 0x53, 0x1A] ∨ image.length < 16 ∨ (imageCart image).prgBanks = 0 ∨
    image.length < (imageCart image).imageLength ∨ supportedMapper (imageCart image).mapper = false

theorem parseImage_of_bad {image : List Byte} (h : BadImage image) : ∃ e, e ≠ LoadStatus.loaded ∧ parseImage image = .error e := by
  unfold parseImage
  dsimp only
  split
  · exact ⟨.badMagic, by decide, rfl⟩
  next hmagic =>
    split
    · exact ⟨.shortImage, by decide, rfl⟩
    next hheader =>
      split
      · exact ⟨.noPrgBanks, by decide, rfl⟩
      next hbanks =>
        split
        · exact ⟨.shortImage, by decide, rfl⟩
        next hlength =>
          have hmapper : supportedMapper (imageCart image).mapper = false := by
            simpa only [BadImage, hmagic, hheader, hbanks, hlength, false_or] using h
          rw [hmapper]
          exact ⟨.unsupportedMapper, by decide, rfl⟩

theorem parseImage_of_good {image : List Byte} (h : ¬ BadImage image) : parseImage image = .ok (imageCart image) := by
  unfold BadImage at h
  push Not at h
  obtain ⟨hmagic, hheader, hbanks, hlength, hmapper⟩ := h
  unfold parseImage
  dsimp only
  rw [if_neg (not_not_intro hmagic), if_neg hheader.not_gt, if_neg hbanks, if_neg hlength.not_gt, if_pos (Bool.eq_true_of_not_eq_false hmapper)]

theorem insertCartridge_of_bad {image : List Byte} (h : BadImage image) (battery : Option (List Byte)) (s : State) :
    ∃ e, e ≠ LoadStatus.loaded ∧ insertCartridge image battery s = { s with host := { s.host with status := e } } := by
  obtain ⟨e, he, hparse⟩ := parseImage_of_bad h
  refine ⟨e, he, ?_⟩
  unfold insertCartridge
  rw [hparse]

theorem attach_host (c : Cart) (image : List Byte) (battery : Option (List Byte)) (s : State) :
    (attach c image battery s).host = s.host := by
  rw [(attach_frame c image battery s).host, insertedState_host, takeDraws_state]

/-- An image that is not bad is attached, and the machine is hard-reset (R578). -/
theorem insertCartridge_of_good {image : List Byte} (h : ¬ BadImage image) (battery : Option (List Byte)) (s : State) :
    insertCartridge image battery s =
      { hardReset (attach (imageCart image) image battery s) with host := { s.host with status := .loaded } } := by
  unfold insertCartridge
  rw [parseImage_of_good h]
  dsimp only
  rw [(hardReset_keeps _).2.1, attach_host]

/-! ### The memories of the cartridge -/

theorem read_imagePart (image : List Byte) (start : Nat) {n k : Nat} (h : k < n) :
    (Memory.ofBytes ((image.drop start).take n)).read k = image.getD (start + k) 0 := by
  rw [Memory.read_ofBytes, getD_take _ h, getD_drop]

/-- The battery image stands in SRAM from 0 (R578). -/
theorem insertedSram_battery (c : Cart) (image : List Byte) (battery : Option (List Byte)) (drawn : List Byte) {k : Nat} (hk : k < 8192)
    (hsaved : k < (battery.getD []).length) : (insertedSram c image battery drawn).read k = (battery.getD []).getD k 0 := by
  cases battery with
  | none => exact absurd hsaved (Nat.not_lt_zero k)
  | some saved =>
    have htrainer := insertedSram_wf c image none drawn
    have hread := Memory.read_writeBytes (saved.take 8192) htrainer 0 (i := k) (by rw [List.length_take]; exact Nat.lt_min.mpr ⟨hk, hsaved⟩)
    rwa [Nat.zero_add, getD_take _ hk] at hread

/-- The trainer stands in SRAM from $1000, past the battery image (R578). -/
theorem insertedSram_trainer {c : Cart} {image : List Byte} {battery : Option (List Byte)} (drawn : List Byte) {k : Nat} (hk : k < 512)
    (htrainer : c.trainer = true) (hlength : 528 ≤ image.length) (hsaved : (battery.getD []).length ≤ 0x1000 + k) :
    (insertedSram c image battery drawn).read (0x1000 + k) = image.getD (16 + k) 0 := by
  have hread : (insertedSram c image none drawn).read (0x1000 + k) = image.getD (16 + k) 0 := by
    unfold insertedSram
    dsimp only
    rw [if_pos htrainer, Memory.read_writeBytes _ (Memory.ofBytes_wf drawn) _ (by rw [List.length_take, List.length_drop]; omega),
      getD_take _ hk, getD_drop]
  cases battery with
  | none => exact hread
  | some saved =>
    refine (Memory.read_writeBytes_other (saved.take 8192) (insertedSram c image none drawn) (.inr ?_)).trans hread
    rw [List.length_take]
    exact (Nat.zero_add _).le.trans ((Nat.min_le_right _ _).trans hsaved)

/-- The memories of a cartridge after its insert (R578). -/
theorem attach_mem (c : Cart) (image : List Byte) (battery : Option (List Byte)) (s : State) :
    ∃ drawn, (attach c image battery s).mem = { s.mem with
      prg := Memory.ofBytes ((image.drop c.prgOffset).take c.prgBytes)
      chr := Memory.ofBytes (((image.drop c.prgOffset).drop c.prgBytes).take (8192 * c.chrBanks))
      sram := insertedSram c image battery drawn } :=
  ⟨_, (attach_frame c image battery s).mem⟩

theorem attach_cart (c : Cart) (image : List Byte) (battery : Option (List Byte)) (s : State) : (attach c image battery s).cart = c :=
  (attach_frame c image battery s).cart

/-- An insert and its reset show CPU RAM, dead pages and SRAM below $8000 (R506). -/
theorem hardReset_attach_lowPages (c : Cart) (image : List Byte) (battery : Option (List Byte)) (s : State) {i : Fin 16} (h : i.val < 8) :
    (hardReset (attach c image battery s)).pages.get i = insertPages.get i :=
  (hardReset_lowPages _ i h).trans (attach_lowPages c image battery s i h)

theorem insertPages_ram : ∀ i : Fin 16, i.val < 2 → insertPages.get i = .mapped .ram 0 := by decide

theorem insertPages_dead : ∀ i : Fin 16, 2 ≤ i.val → i.val < 6 → insertPages.get i = .dead := by decide

/-- Settles O59: the tests of a load are the listed faults, and a load is the attachment of the image's cartridge and a hard reset. -/
theorem failedInsert : Obligations.FailedInsert := by
  unfold Obligations.FailedInsert
  intro image battery s b flags legacy mapper c prgAt chrAt saved fails t
  have hcart : imageCart image = c := congrArg (fun m => { imageCart image with mapper := m }) (imageMapper_eq image)
  have hbad : BadImage image ↔ fails := by
    unfold BadImage
    rw [hcart, supportedMapper_iff, show c.prgBanks = 0 ↔ b 4 = 0 from BitVec.toNat_inj (y := 0)]
    rfl
  refine ⟨fun hfails => insertCartridge_of_bad (hbad.mpr hfails) battery s, fun hgood => ?_⟩
  have ht : t = { hardReset (attach c image battery s) with host := { s.host with status := .loaded } } :=
    hcart ▸ insertCartridge_of_good (hbad.not.mpr hgood) battery s
  have hbanks : 1 ≤ c.prgBanks := hcart ▸ parseImage_prgBanks (parseImage_of_good (hbad.not.mpr hgood))
  obtain ⟨hrcart, -, hrprg, hrsram, hrchr⟩ := hardReset_keeps (attach c image battery s)
  obtain ⟨drawn, hmem⟩ := attach_mem c image battery s
  rw [attach_cart] at hrcart hrchr
  rw [hmem] at hrprg hrsram hrchr
  have hlow {i : Fin 16} (h : i.val < 8) := hardReset_attach_lowPages c image battery s h
  rw [ht]
  dsimp only
  refine ⟨hrcart, fun k hk => ?_, fun k hk => ?_, fun k hk hsaved => ?_, fun k hk htrainer hsaved => ?_, ?_,
    fun i h => ⟨0, (hlow (by omega)).trans (insertPages_ram i h)⟩, fun i h h' => (hlow (by omega)).trans (insertPages_dead i h h'),
    hlow (by decide), hlow (by decide), attach c image battery s, attach_cart c image battery s, rfl⟩
  · rw [hrprg]
    exact read_imagePart image prgAt hk
  · rw [hrchr (fun (h0 : (b 5).toNat = 0) => by omega), List.drop_drop]
    exact read_imagePart image chrAt hk
  · rw [hrsram]
    exact insertedSram_battery c image battery drawn hk hsaved
  · have hprgAt : prgAt = 528 := if_pos htrainer
    have hlength : ¬ image.length < chrAt + 8192 * (b 5).toNat := fun h => hgood (.inr (.inr (.inr (.inl h))))
    have hlength : 528 ≤ image.length := by omega
    rw [hrsram]
    exact insertedSram_trainer drawn hk htrainer hlength hsaved
  · exact hardReset_mapsCart fun _ => (attach_cart c image battery s).symm ▸ hbanks

end Sys2Proof.Machine
